-- ==== Sys2Proof/Word.lean ====
section
/-! DEFINITION. The bit vectors of the decoder's interface (spec 10_state.md R32, R33), by the names the spec gives
them. Each is an `abbrev`, so that every lemma about `BitVec` applies. -/

namespace Sys2Proof

/-- The input word `insn[31:0]` (R32). -/
abbrev Word := BitVec 32

/-- A 16-bit parcel: the low half of the input word, all that a compressed instruction has (R63). -/
abbrev Parcel := BitVec 16

/-- One byte of instruction memory (R61). -/
abbrev Byte := BitVec 8

/-- A register index port: an integer in [0, 31] (R38). The block attaches no register file to it (R44). -/
abbrev Reg := BitVec 5

/-- The `imm` port: 64 bits, read as signed two's complement (R33, R39). -/
abbrev Imm := BitVec 64

/-- The `rm` port: the 3-bit rounding-mode selector (R33, R39). -/
abbrev Rm := BitVec 3

/-- The two ordering bits of an atomic, `funct7[1:0]`: aq above rl (R13, R90). -/
abbrev AqRl := BitVec 2

/-- An address, and the caller's pc (R45). -/
abbrev Addr := BitVec 64

end Sys2Proof
end

