-- ==== Sys2Proof/Config.lean ====
section
/-! DEFINITION. What an implementation fixes (spec 00_scope.md R8), the names the output record is written in, and
the values the spec leaves OPEN: `dontCare` (10_state.md R41), `opcodeCode` (10_state.md R36) and the half of the input
port that a two-byte fetch leaves at any value (70_reset_and_hazards.md R352). -/

namespace Sys2Proof

/-- The integer register width of the target, XLEN (R8, decision D1). -/
def Config.xlen : Nat := 64

/-- The floating-point register width of the target, FLEN (R8, decision D1). -/
def Config.flen : Nat := 64

/-- The `opcode` output: exactly these 86 values (R34), in the spec's own spelling (R14). `illegal` stands first
because it is the zero value of the type (R36); `unimplemented` is a value of its own (R35). -/
inductive Opcode where
  | illegal | unimplemented
  | flw | fld | fsw | fsd
  | lr_w | sc_w | amoswap_w | amoadd_w | amoxor_w | amoand_w | amoor_w
  | amomin_w | amomax_w | amominu_w | amomaxu_w
  | lr_d | sc_d | amoswap_d | amoadd_d | amoxor_d | amoand_d | amoor_d
  | amomin_d | amomax_d | amominu_d | amomaxu_d
  | fmadd_s | fmsub_s | fnmsub_s | fnmadd_s
  | fmadd_d | fmsub_d | fnmsub_d | fnmadd_d
  | fadd_s | fsub_s | fmul_s | fdiv_s | fsqrt_s | fsgnj_s | fsgnjn_s | fsgnjx_s
  | fmin_s | fmax_s | fcvt_w_s | fcvt_wu_s | fcvt_l_s | fcvt_lu_s | fmv_x_w | fclass_s
  | feq_s | flt_s | fle_s | fcvt_s_w | fcvt_s_wu | fcvt_s_l | fcvt_s_lu | fmv_w_x | fcvt_s_d
  | fadd_d | fsub_d | fmul_d | fdiv_d | fsqrt_d | fsgnj_d | fsgnjn_d | fsgnjx_d
  | fmin_d | fmax_d | fcvt_w_d | fcvt_wu_d | fcvt_l_d | fcvt_lu_d | fmv_x_d | fclass_d
  | feq_d | flt_d | fle_d | fcvt_d_w | fcvt_d_wu | fcvt_d_l | fcvt_d_lu | fmv_d_x | fcvt_d_s
  deriving DecidableEq, Repr

/-- The output fields an opcode may leave undefined (R40): every port of the record but `opcode` and `length`. -/
inductive OutField where
  | rd | rs1 | rs2 | rs3 | imm | rm
  deriving DecidableEq, Repr

/-- DESIGN CHOICE, safe (log entry 1): the OPEN parameter `dontCare(insn, field)` of R41, the value of a field that
the opcode does not define. It is a fixed function of the word and the field, and nothing constrains it. The result is
given at the widest port's width; a narrower port takes its low bits. -/
opaque Config.dontCare : Word → OutField → BitVec 64

/-- DESIGN CHOICE, unsafe (log entry 2): bits 31:16 that the caller presents when it fetched only two bytes. R352 lets
the caller leave them "at any value"; nothing constrains them. -/
opaque Config.upperHalf : Addr → Parcel

/-- The OPEN parameter `opcodeCode` of R36: a bit code of the `opcode` output, injective, with `illegal` coded as all
zeros and at least 7 bits wide (decision D6). A definition that needs the code takes one as an argument; the model has
no other use for it. -/
structure OpcodeCode where
  width : Nat
  code : Opcode → BitVec width
  atLeastSeven : 7 ≤ width
  injective : ∀ a b : Opcode, code a = code b → a = b
  illegalIsZero : code .illegal = 0#width

end Sys2Proof
end

