-- ==== Sys2Proof/Machine/State.lean ====
section
/-! DEFINITION. The state: the block's two ports, which are all of it that exists (spec 10_state.md R30, R32, R33),
and the state of the caller that the spec's caller-facing rules read or write (R45, 20_memory.md R61, 60_exceptions.md
R322, R323, R327, 70_reset_and_hazards.md R353). What the spec puts outside both, register files and FP status among
it (00_scope.md R5, 70_reset_and_hazards.md R350), is not here. -/

namespace Sys2Proof.Machine

/-- The output record, the block's output port bundle (R33). -/
structure Record where
  opcode : Opcode
  /-- 2 or 4 (R37). -/
  length : BitVec 3
  rd : Reg
  rs1 : Reg
  rs2 : Reg
  rs3 : Reg
  imm : Imm
  rm : Rm
  deriving DecidableEq, Repr

/-- Instruction memory as the caller sees it: the bytes that exist, by address. An unlisted address has no byte, so a
fetch there supplies no word. DESIGN CHOICE, safe (log entry 5). -/
abbrev Memory := List Host.Cell

/-- The addresses rise strictly and lie in the address space; an unlisted address reads as no byte, so no entry can
equal it. -/
def Memory.wf : Memory → Bool
  | [] => true
  | [c] => decide (c.1 < 2 ^ Config.xlen)
  | c :: d :: rest => decide (c.1 < d.1) && Memory.wf (d :: rest)

/-- The caller's privilege mode (R327, R331). -/
inductive Mode where
  | user
  | supervisor
  | machine
  deriving DecidableEq, Repr

/-- The fields of the caller's `mstatus` that a trap entry reads or writes (R327). -/
structure Mstatus where
  mie : Bool
  mpie : Bool
  mpp : Mode
  deriving DecidableEq, Repr

/-- What the caller does with a record that is no instruction. DESIGN CHOICE, safe (log entry 7): R353 lets a caller
continue past an `illegal` or `unimplemented` record, R322 and R323 say what it does when it comes to execute one. -/
inductive CallerPolicy where
  /-- Decode linearly, advancing by `length` (R353). -/
  | continuePast
  /-- Take the illegal-instruction exception (R322), refuse an unimplemented record (R323). -/
  | trapOrRefuse
  deriving DecidableEq, Repr

/-- The machine: block and caller. -/
structure State where
  /-- The input port: the word last presented (R32). -/
  insn : Word
  /-- The output ports (R33). -/
  out : Record
  /-- The caller's program counter: where it fetches next (R45, R353). -/
  pc : Addr
  /-- Instruction memory (R61). -/
  mem : Memory
  policy : CallerPolicy
  /-- The caller's trap state (R327). PRESUMED, unsafe (log entry 15): the spec gives these registers no width; the
  model has XLEN bits. -/
  mode : Mode
  mstatus : Mstatus
  mepc : BitVec 64
  mcause : BitVec 64
  mtval : BitVec 64
  mtvec : BitVec 64
  deriving DecidableEq, Repr

/-- Why a step stops. Both are the caller's fetch supplying no word, so that decode is not called (R326); the block
itself never signals a fault (R320). -/
inductive Fault where
  /-- Raised by the fetch when the pc is odd: instruction addresses are 2-byte aligned, and a misaligned fetch is the
  caller's concern (R64). Safe: the spec gives such a fetch no word. -/
  | fetchMisaligned
  /-- Raised by the fetch when a byte it needs does not exist: exception codes 1 and 12 of R324, the caller's, before
  decode (R326). Safe: the spec gives such a fetch no word. -/
  | fetchAccess
  deriving DecidableEq, Repr

/-- Why a step declines to give a next state. -/
inductive Refusal where
  /-- Raised by an arm of exec that has no meaning yet; no arm is left so. Safe. -/
  | notModelled (mnemonic : String)
  /-- Raised by a delegated row when the caller's policy is to act on it: the caller refuses, and never traps (R323).
  Safe: nothing is claimed of a run that reaches it. -/
  | unimplementedRecord
  deriving DecidableEq, Repr

/-- The machine right after reset. The block has nothing to reset, and its outputs follow its input (R49): the record
is the one of the word on the input port. Machine mode and `mie` clear are R350's; every other value is log entry
3, 4, 5, 7 or 8's. -/
def State.reset : State where
  insn := 0#32
  out :=
    { opcode := .unimplemented, length := 2#3, rd := 0#5, rs1 := 0#5, rs2 := 0#5, rs3 := 0#5, imm := 0#64, rm := 0#3 }
  pc := 0#64
  mem := []
  policy := .continuePast
  mode := .machine
  mstatus := { mie := false, mpie := false, mpp := .machine }
  mepc := 0#64
  mcause := 0#64
  mtval := 0#64
  mtvec := 0#64

end Sys2Proof.Machine
end

