-- ==== Sys2Proof/Machine/Flags.lean ====
section
/-! DEFINITION. The block has no flags, condition codes or status registers, and no instruction writes one (spec
10_state.md R46, 00_scope.md R16). What the spec calls flags are the two ordering flags of an atomic, which are
carried to `imm` and never interpreted (30_encoding.md R90, 20_memory.md R69). -/

namespace Sys2Proof.Machine

/-- The `imm` of an atomic: `zext_64(funct7[1:0])` (R90). -/
def orderingImm (aqrl : AqRl) : Imm := aqrl.setWidth 64

/-- The acquire flag of an atomic's record: `imm[1]` (R39, R90). -/
def Record.aq (r : Record) : Bool := r.imm.getLsbD 1

/-- The release flag of an atomic's record: `imm[0]` (R39, R90). -/
def Record.rl (r : Record) : Bool := r.imm.getLsbD 0

end Sys2Proof.Machine
end

