-- ==== Sys2Proof/Syntax.lean ====
section
/-! DEFINITION. The instructions: one constructor per row of spec/opcode_table.json, with the operands the rule of the
row gives. A register operand is the full 5-bit index and an immediate the full 64-bit value that the record carries
(spec 10_state.md R38, R39); what of them an encoding admits is WellFormed's. A field that the row fixes (a selector,
LR's rs2, the stack-pointer base) is no operand. A delegated or reserved row has no operand: the answer ignores the
word's other bits (R145, R129, R124). -/

namespace Sys2Proof

/-- An instruction of the opcode table (R105). -/
inductive Instr where
  -- Compressed double-precision FP loads and stores (41_compressed_fp.md)
  | cFld (rd rs1 : Reg) (imm : Imm)
  | cFsd (rs1 rs2 : Reg) (imm : Imm)
  | cFldsp (rd : Reg) (imm : Imm)
  | cFsdsp (rs2 : Reg) (imm : Imm)
  -- Delegated compressed pairs, named by their RV64C occupant (R97, R145)
  | unimpCAddi4spn
  | unimpCLw
  | unimpCLd
  | unimpCReserved
  | unimpCSw
  | unimpCSd
  | unimpCNopAddi
  | unimpCAddiw
  | unimpCLi
  | unimpCLuiAddi16sp
  | unimpCMiscAlu
  | unimpCJ
  | unimpCBeqz
  | unimpCBnez
  | unimpCSlli
  | unimpCLwsp
  | unimpCLdsp
  | unimpCJrMvAdd
  | unimpCSwsp
  | unimpCSdsp
  -- The reserved long space (R96, R124)
  | illegalLong
  -- Standard FP loads and stores (42_fp_loadstore.md)
  | flw (rd rs1 : Reg) (imm : Imm)
  | fld (rd rs1 : Reg) (imm : Imm)
  | fsw (rs1 rs2 : Reg) (imm : Imm)
  | fsd (rs1 rs2 : Reg) (imm : Imm)
  -- Atomics (43_amo.md)
  | lrW (rd rs1 : Reg) (aqrl : AqRl)
  | scW (rd rs1 rs2 : Reg) (aqrl : AqRl)
  | amoswapW (rd rs1 rs2 : Reg) (aqrl : AqRl)
  | amoaddW (rd rs1 rs2 : Reg) (aqrl : AqRl)
  | amoxorW (rd rs1 rs2 : Reg) (aqrl : AqRl)
  | amoandW (rd rs1 rs2 : Reg) (aqrl : AqRl)
  | amoorW (rd rs1 rs2 : Reg) (aqrl : AqRl)
  | amominW (rd rs1 rs2 : Reg) (aqrl : AqRl)
  | amomaxW (rd rs1 rs2 : Reg) (aqrl : AqRl)
  | amominuW (rd rs1 rs2 : Reg) (aqrl : AqRl)
  | amomaxuW (rd rs1 rs2 : Reg) (aqrl : AqRl)
  | lrD (rd rs1 : Reg) (aqrl : AqRl)
  | scD (rd rs1 rs2 : Reg) (aqrl : AqRl)
  | amoswapD (rd rs1 rs2 : Reg) (aqrl : AqRl)
  | amoaddD (rd rs1 rs2 : Reg) (aqrl : AqRl)
  | amoxorD (rd rs1 rs2 : Reg) (aqrl : AqRl)
  | amoandD (rd rs1 rs2 : Reg) (aqrl : AqRl)
  | amoorD (rd rs1 rs2 : Reg) (aqrl : AqRl)
  | amominD (rd rs1 rs2 : Reg) (aqrl : AqRl)
  | amomaxD (rd rs1 rs2 : Reg) (aqrl : AqRl)
  | amominuD (rd rs1 rs2 : Reg) (aqrl : AqRl)
  | amomaxuD (rd rs1 rs2 : Reg) (aqrl : AqRl)
  -- Fused multiply-add (44_fma.md)
  | fmaddS (rd rs1 rs2 rs3 : Reg) (rm : Rm)
  | fmsubS (rd rs1 rs2 rs3 : Reg) (rm : Rm)
  | fnmsubS (rd rs1 rs2 rs3 : Reg) (rm : Rm)
  | fnmaddS (rd rs1 rs2 rs3 : Reg) (rm : Rm)
  | fmaddD (rd rs1 rs2 rs3 : Reg) (rm : Rm)
  | fmsubD (rd rs1 rs2 rs3 : Reg) (rm : Rm)
  | fnmsubD (rd rs1 rs2 rs3 : Reg) (rm : Rm)
  | fnmaddD (rd rs1 rs2 rs3 : Reg) (rm : Rm)
  -- OP-FP, single precision (45_op_fp_single.md)
  | faddS (rd rs1 rs2 : Reg) (rm : Rm)
  | fsubS (rd rs1 rs2 : Reg) (rm : Rm)
  | fmulS (rd rs1 rs2 : Reg) (rm : Rm)
  | fdivS (rd rs1 rs2 : Reg) (rm : Rm)
  | fsqrtS (rd rs1 : Reg) (rm : Rm)
  | fsgnjS (rd rs1 rs2 : Reg)
  | fsgnjnS (rd rs1 rs2 : Reg)
  | fsgnjxS (rd rs1 rs2 : Reg)
  | fminS (rd rs1 rs2 : Reg)
  | fmaxS (rd rs1 rs2 : Reg)
  | fcvtWS (rd rs1 : Reg) (rm : Rm)
  | fcvtWuS (rd rs1 : Reg) (rm : Rm)
  | fcvtLS (rd rs1 : Reg) (rm : Rm)
  | fcvtLuS (rd rs1 : Reg) (rm : Rm)
  | fmvXW (rd rs1 : Reg)
  | fclassS (rd rs1 : Reg)
  | feqS (rd rs1 rs2 : Reg)
  | fltS (rd rs1 rs2 : Reg)
  | fleS (rd rs1 rs2 : Reg)
  | fcvtSW (rd rs1 : Reg) (rm : Rm)
  | fcvtSWu (rd rs1 : Reg) (rm : Rm)
  | fcvtSL (rd rs1 : Reg) (rm : Rm)
  | fcvtSLu (rd rs1 : Reg) (rm : Rm)
  | fmvWX (rd rs1 : Reg)
  | fcvtSD (rd rs1 : Reg) (rm : Rm)
  -- OP-FP, double precision (46_op_fp_double.md)
  | faddD (rd rs1 rs2 : Reg) (rm : Rm)
  | fsubD (rd rs1 rs2 : Reg) (rm : Rm)
  | fmulD (rd rs1 rs2 : Reg) (rm : Rm)
  | fdivD (rd rs1 rs2 : Reg) (rm : Rm)
  | fsqrtD (rd rs1 : Reg) (rm : Rm)
  | fsgnjD (rd rs1 rs2 : Reg)
  | fsgnjnD (rd rs1 rs2 : Reg)
  | fsgnjxD (rd rs1 rs2 : Reg)
  | fminD (rd rs1 rs2 : Reg)
  | fmaxD (rd rs1 rs2 : Reg)
  | fcvtWD (rd rs1 : Reg) (rm : Rm)
  | fcvtWuD (rd rs1 : Reg) (rm : Rm)
  | fcvtLD (rd rs1 : Reg) (rm : Rm)
  | fcvtLuD (rd rs1 : Reg) (rm : Rm)
  | fmvXD (rd rs1 : Reg)
  | fclassD (rd rs1 : Reg)
  | feqD (rd rs1 rs2 : Reg)
  | fltD (rd rs1 rs2 : Reg)
  | fleD (rd rs1 rs2 : Reg)
  | fcvtDW (rd rs1 : Reg) (rm : Rm)
  | fcvtDWu (rd rs1 : Reg) (rm : Rm)
  | fcvtDL (rd rs1 : Reg) (rm : Rm)
  | fcvtDLu (rd rs1 : Reg) (rm : Rm)
  | fmvDX (rd rs1 : Reg)
  | fcvtDS (rd rs1 : Reg) (rm : Rm)
  -- Delegated major opcodes (R95, R129)
  | unimpLoad
  | unimpCustom0
  | unimpMiscMem
  | unimpOpImm
  | unimpAuipc
  | unimpOpImm32
  | unimpStore
  | unimpCustom1
  | unimpOp
  | unimpLui
  | unimpOp32
  | unimpOpV
  | unimpCustom2
  | unimpBranch
  | unimpJalr
  | unimpReserved
  | unimpJal
  | unimpSystem
  | unimpOpP
  | unimpCustom3
  deriving DecidableEq, Repr

end Sys2Proof
end

