-- ==== Sys2Proof/WellFormed.lean ====
section
/-! DEFINITION. Which operand values an encoding admits. Register, rounding-mode and ordering operands fill their
fields, so every value is well formed; an immediate has fewer bits than its 64-bit port, and a compressed register
field reaches only eight registers (spec 30_encoding.md R84 to R89). -/

namespace Sys2Proof

/-- The I-type and S-type displacement: -2048 to 2047 (R85, R86). -/
def wfSigned12 (imm : Imm) : Bool :=
  decide (-2048 ≤ imm.toInt) && decide (imm.toInt ≤ 2047)

/-- The CL and CS displacement: 0 to 248 in steps of 8 (R87). -/
def wfScaled5 (imm : Imm) : Bool :=
  decide (imm.toNat ≤ 248) && decide (imm.toNat % 8 = 0)

/-- The CI and CSS displacement: 0 to 504 in steps of 8 (R88, R89). -/
def wfScaled6 (imm : Imm) : Bool :=
  decide (imm.toNat ≤ 504) && decide (imm.toNat % 8 = 0)

/-- A register that a compressed 3-bit field can name: 8 to 15 (R38, R84). -/
def wfCompressedReg (r : Reg) : Bool :=
  decide (8 ≤ r.toNat) && decide (r.toNat ≤ 15)

/-- The check of a whole instruction. Every constructor is named, so a new one cannot slip past. -/
def Instr.wf : Instr → Bool
  | .cFld rd rs1 imm => wfCompressedReg rd && wfCompressedReg rs1 && wfScaled5 imm
  | .cFsd rs1 rs2 imm => wfCompressedReg rs1 && wfCompressedReg rs2 && wfScaled5 imm
  | .cFldsp _ imm => wfScaled6 imm
  | .cFsdsp _ imm => wfScaled6 imm
  | .flw _ _ imm => wfSigned12 imm
  | .fld _ _ imm => wfSigned12 imm
  | .fsw _ _ imm => wfSigned12 imm
  | .fsd _ _ imm => wfSigned12 imm
  | .unimpCAddi4spn | .unimpCLw | .unimpCLd | .unimpCReserved | .unimpCSw | .unimpCSd | .unimpCNopAddi
  | .unimpCAddiw | .unimpCLi | .unimpCLuiAddi16sp | .unimpCMiscAlu | .unimpCJ | .unimpCBeqz | .unimpCBnez
  | .unimpCSlli | .unimpCLwsp | .unimpCLdsp | .unimpCJrMvAdd | .unimpCSwsp | .unimpCSdsp | .illegalLong
  | .lrW _ _ _ | .scW _ _ _ _ | .amoswapW _ _ _ _ | .amoaddW _ _ _ _ | .amoxorW _ _ _ _ | .amoandW _ _ _ _
  | .amoorW _ _ _ _ | .amominW _ _ _ _ | .amomaxW _ _ _ _ | .amominuW _ _ _ _ | .amomaxuW _ _ _ _ | .lrD _ _ _
  | .scD _ _ _ _ | .amoswapD _ _ _ _ | .amoaddD _ _ _ _ | .amoxorD _ _ _ _ | .amoandD _ _ _ _ | .amoorD _ _ _ _
  | .amominD _ _ _ _ | .amomaxD _ _ _ _ | .amominuD _ _ _ _ | .amomaxuD _ _ _ _ | .fmaddS _ _ _ _ _
  | .fmsubS _ _ _ _ _ | .fnmsubS _ _ _ _ _ | .fnmaddS _ _ _ _ _ | .fmaddD _ _ _ _ _ | .fmsubD _ _ _ _ _
  | .fnmsubD _ _ _ _ _ | .fnmaddD _ _ _ _ _ | .faddS _ _ _ _ | .fsubS _ _ _ _ | .fmulS _ _ _ _ | .fdivS _ _ _ _
  | .fsqrtS _ _ _ | .fsgnjS _ _ _ | .fsgnjnS _ _ _ | .fsgnjxS _ _ _ | .fminS _ _ _ | .fmaxS _ _ _
  | .fcvtWS _ _ _ | .fcvtWuS _ _ _ | .fcvtLS _ _ _ | .fcvtLuS _ _ _ | .fmvXW _ _ | .fclassS _ _ | .feqS _ _ _
  | .fltS _ _ _ | .fleS _ _ _ | .fcvtSW _ _ _ | .fcvtSWu _ _ _ | .fcvtSL _ _ _ | .fcvtSLu _ _ _ | .fmvWX _ _
  | .fcvtSD _ _ _ | .faddD _ _ _ _ | .fsubD _ _ _ _ | .fmulD _ _ _ _ | .fdivD _ _ _ _ | .fsqrtD _ _ _
  | .fsgnjD _ _ _ | .fsgnjnD _ _ _ | .fsgnjxD _ _ _ | .fminD _ _ _ | .fmaxD _ _ _ | .fcvtWD _ _ _
  | .fcvtWuD _ _ _ | .fcvtLD _ _ _ | .fcvtLuD _ _ _ | .fmvXD _ _ | .fclassD _ _ | .feqD _ _ _ | .fltD _ _ _
  | .fleD _ _ _ | .fcvtDW _ _ _ | .fcvtDWu _ _ _ | .fcvtDL _ _ _ | .fcvtDLu _ _ _ | .fmvDX _ _ | .fcvtDS _ _ _
  | .unimpLoad | .unimpCustom0 | .unimpMiscMem | .unimpOpImm | .unimpAuipc | .unimpOpImm32 | .unimpStore
  | .unimpCustom1 | .unimpOp | .unimpLui | .unimpOp32 | .unimpOpV | .unimpCustom2 | .unimpBranch | .unimpJalr
  | .unimpReserved | .unimpJal | .unimpSystem | .unimpOpP | .unimpCustom3 => true

end Sys2Proof
end

