-- ==== Sys2Proof/Decode.lean ====
section
/-! DEFINITION. The bitfield extractor, the format discriminator, the opcode demultiplexer and the per-class decode
(spec 40_decode_top.md, 41 to 46), total on every word; after them the encoder, written from the encoding tables of
30_encoding.md, and the rows of the opcode table. The 32-bit word is what the caller presents; how it is made of bytes
stands in Machine/Ops.lean (20_memory.md R61). -/

namespace Sys2Proof

/-! ### The bitfield extractor (R120 to R122) -/

/-- A range descriptor `R(hi, lo)` of the extractor (R120). -/
structure BitRange where
  hi : Nat
  lo : Nat
  deriving DecidableEq, Repr

/-- How many bits a descriptor selects. -/
def BitRange.width (d : BitRange) : Nat := d.hi - d.lo + 1

/-- What R120 asks of a descriptor: `31 ≥ hi ≥ lo`. -/
def BitRange.valid (d : BitRange) : Bool := decide (d.hi ≤ 31) && decide (d.lo ≤ d.hi)

/-- The width of the concatenation, `k = Σ (hi - lo + 1)` (R120). -/
def selectWidth : List BitRange → Nat
  | [] => 0
  | d :: ds => d.width + selectWidth ds

/-- The selected bits, the first descriptor most significant (R10, R120). -/
def selectBits (w : Word) : (ds : List BitRange) → BitVec (selectWidth ds)
  | [] => 0#0
  | d :: ds => w.extractLsb' d.lo d.width ++ selectBits w ds

/-- Whether the descriptor list carries the sign-extension marker (R121). -/
inductive Extension where
  | zext
  | sext
  deriving DecidableEq, Repr

/-- `Extract(w, D, ext, scale)` (R120): concatenate, append `scale` zero bits, extend to 64 bits. The marker stands
for the most significant selected bit (R121). -/
def extract (w : Word) (ds : List BitRange) (ext : Extension) (scale : Nat) : Imm :=
  let v := selectBits w ds ++ 0#scale
  match ext with
  | .zext => v.setWidth 64
  | .sext => v.signExtend 64

/-- The I-type immediate (R85). -/
def immI (w : Word) : Imm := extract w [⟨31, 20⟩] .sext 0

/-- The S-type immediate (R86). -/
def immS (w : Word) : Imm := extract w [⟨31, 25⟩, ⟨11, 7⟩] .sext 0

/-- The CL and CS immediate (R87; the bit order is 90_conflicts.md C3's). -/
def immCL (w : Word) : Imm := extract w [⟨6, 5⟩, ⟨12, 10⟩] .zext 3

/-- The CI immediate of C.FLDSP (R88). -/
def immCI (w : Word) : Imm := extract w [⟨4, 2⟩, ⟨12, 12⟩, ⟨6, 5⟩] .zext 3

/-- The CSS immediate of C.FSDSP (R89; 90_conflicts.md C4). -/
def immCSS (w : Word) : Imm := extract w [⟨9, 7⟩, ⟨12, 10⟩] .zext 3

/-! ### The fields of a word (R13, R126) -/

def opcode7 (w : Word) : BitVec 7 := w.extractLsb' 0 7
def fieldRd (w : Word) : Reg := w.extractLsb' 7 5
def funct3 (w : Word) : BitVec 3 := w.extractLsb' 12 3
def fieldRs1 (w : Word) : Reg := w.extractLsb' 15 5
def fieldRs2 (w : Word) : Reg := w.extractLsb' 20 5
def funct7 (w : Word) : BitVec 7 := w.extractLsb' 25 7
/-- `funct7[6:2]`: the operation of an atomic (R99), and rs3 of a fused multiply-add (R91). -/
def funct5 (w : Word) : BitVec 5 := w.extractLsb' 27 5
/-- `funct7[1:0]`: the precision of a fused multiply-add (R91), and the ordering bits of an atomic (R90). -/
def fmt2 (w : Word) : BitVec 2 := w.extractLsb' 25 2
def quadrant (w : Word) : BitVec 2 := w.extractLsb' 0 2
def cfunct3 (w : Word) : BitVec 3 := w.extractLsb' 13 3
/-- The five bits that mark the reserved long space (R96). -/
def lengthPrefix (w : Word) : BitVec 5 := w.extractLsb' 0 5
/-- A compressed 3-bit register field names register `field + 8` (R84, R134). -/
def compressedReg (f : BitVec 3) : Reg := f.setWidth 5 + 8#5
/-- `rs1'`, bits 9:7 (R83). -/
def fieldRs1C (w : Word) : Reg := compressedReg (w.extractLsb' 7 3)
/-- `rd'` or `rs2'`, bits 4:2 (R83). -/
def fieldRdC (w : Word) : Reg := compressedReg (w.extractLsb' 2 3)
/-- The full 5-bit `rs2` of the CSS format, bits 6:2 (R83). -/
def fieldRs2C (w : Word) : Reg := w.extractLsb' 2 5

/-! ### Decode -/

/-- Why a word of a decoded major opcode matches no row: every such word is `illegal`, length 4 (R102, R128). -/
inductive IllegalCase where
  /-- LOAD-FP with `funct3` other than 010 and 011 (R160). -/
  | loadFpWidth
  /-- STORE-FP with `funct3` other than 010 and 011 (R163). -/
  | storeFpWidth
  /-- AMO with `funct3` other than 010 and 011 (R203 item 1). -/
  | amoWidth
  /-- AMO with a `funct5` outside the table (R203 item 2). -/
  | amoOperation
  /-- LR with `rs2` not 0 (R203 item 3). -/
  | lrRs2
  /-- Fused multiply-add with `fmt` 10 or 11 (R229). -/
  | fmaFormat
  /-- OP-FP with a `funct7` outside the table (R266 item 1, R306 item 1). -/
  | opFpFunct7
  /-- OP-FP with an `rs2` or `funct3` selector mismatch (R266 items 2 to 9, R306 items 2 and 3). -/
  | opFpSelector
  deriving DecidableEq, Repr

/-- What decode makes of a word: a row's instruction, or a rejection by name. -/
inductive Decoded where
  | instr (i : Instr)
  | illegal (why : IllegalCase)
  deriving DecidableEq, Repr

/-- The compressed demultiplexer (R125): every (quadrant, cfunct3) pair has its arm, so no wildcard is needed (R132).
Quadrant 11 never comes here, because decode's first test has sent it elsewhere (R123). -/
def decodeCompressed (w : Word) : Instr :=
  match quadrant w, cfunct3 w with
  | 0b00#2, 0b000#3 => .unimpCAddi4spn
  | 0b00#2, 0b001#3 => .cFld (fieldRdC w) (fieldRs1C w) (immCL w)
  | 0b00#2, 0b010#3 => .unimpCLw
  | 0b00#2, 0b011#3 => .unimpCLd
  | 0b00#2, 0b100#3 => .unimpCReserved
  | 0b00#2, 0b101#3 => .cFsd (fieldRs1C w) (fieldRdC w) (immCL w)
  | 0b00#2, 0b110#3 => .unimpCSw
  | 0b00#2, 0b111#3 => .unimpCSd
  | 0b01#2, 0b000#3 => .unimpCNopAddi
  | 0b01#2, 0b001#3 => .unimpCAddiw
  | 0b01#2, 0b010#3 => .unimpCLi
  | 0b01#2, 0b011#3 => .unimpCLuiAddi16sp
  | 0b01#2, 0b100#3 => .unimpCMiscAlu
  | 0b01#2, 0b101#3 => .unimpCJ
  | 0b01#2, 0b110#3 => .unimpCBeqz
  | 0b01#2, 0b111#3 => .unimpCBnez
  | 0b10#2, 0b000#3 => .unimpCSlli
  | 0b10#2, 0b001#3 => .cFldsp (fieldRd w) (immCI w)
  | 0b10#2, 0b010#3 => .unimpCLwsp
  | 0b10#2, 0b011#3 => .unimpCLdsp
  | 0b10#2, 0b100#3 => .unimpCJrMvAdd
  | 0b10#2, 0b101#3 => .cFsdsp (fieldRs2C w) (immCSS w)
  | 0b10#2, 0b110#3 => .unimpCSwsp
  | 0b10#2, 0b111#3 => .unimpCSdsp
  | 0b11#2, _ => .illegalLong

/-- LOAD-FP (R160). -/
def decodeLoadFp (w : Word) : Decoded :=
  match funct3 w with
  | 0b010#3 => .instr (.flw (fieldRd w) (fieldRs1 w) (immI w))
  | 0b011#3 => .instr (.fld (fieldRd w) (fieldRs1 w) (immI w))
  | _ => .illegal .loadFpWidth

/-- STORE-FP (R163). -/
def decodeStoreFp (w : Word) : Decoded :=
  match funct3 w with
  | 0b010#3 => .instr (.fsw (fieldRs1 w) (fieldRs2 w) (immS w))
  | 0b011#3 => .instr (.fsd (fieldRs1 w) (fieldRs2 w) (immS w))
  | _ => .illegal .storeFpWidth

/-- The atomic operations of word width, by `funct5` (R99, R180). -/
def decodeAmoW (w : Word) : Decoded :=
  match funct5 w with
  | 0b00010#5 =>
    if fieldRs2 w = 0#5 then .instr (.lrW (fieldRd w) (fieldRs1 w) (fmt2 w)) else .illegal .lrRs2
  | 0b00011#5 => .instr (.scW (fieldRd w) (fieldRs1 w) (fieldRs2 w) (fmt2 w))
  | 0b00001#5 => .instr (.amoswapW (fieldRd w) (fieldRs1 w) (fieldRs2 w) (fmt2 w))
  | 0b00000#5 => .instr (.amoaddW (fieldRd w) (fieldRs1 w) (fieldRs2 w) (fmt2 w))
  | 0b00100#5 => .instr (.amoxorW (fieldRd w) (fieldRs1 w) (fieldRs2 w) (fmt2 w))
  | 0b01100#5 => .instr (.amoandW (fieldRd w) (fieldRs1 w) (fieldRs2 w) (fmt2 w))
  | 0b01000#5 => .instr (.amoorW (fieldRd w) (fieldRs1 w) (fieldRs2 w) (fmt2 w))
  | 0b10000#5 => .instr (.amominW (fieldRd w) (fieldRs1 w) (fieldRs2 w) (fmt2 w))
  | 0b10100#5 => .instr (.amomaxW (fieldRd w) (fieldRs1 w) (fieldRs2 w) (fmt2 w))
  | 0b11000#5 => .instr (.amominuW (fieldRd w) (fieldRs1 w) (fieldRs2 w) (fmt2 w))
  | 0b11100#5 => .instr (.amomaxuW (fieldRd w) (fieldRs1 w) (fieldRs2 w) (fmt2 w))
  | _ => .illegal .amoOperation

/-- The atomic operations of doubleword width, by `funct5` (R99, R180). -/
def decodeAmoD (w : Word) : Decoded :=
  match funct5 w with
  | 0b00010#5 =>
    if fieldRs2 w = 0#5 then .instr (.lrD (fieldRd w) (fieldRs1 w) (fmt2 w)) else .illegal .lrRs2
  | 0b00011#5 => .instr (.scD (fieldRd w) (fieldRs1 w) (fieldRs2 w) (fmt2 w))
  | 0b00001#5 => .instr (.amoswapD (fieldRd w) (fieldRs1 w) (fieldRs2 w) (fmt2 w))
  | 0b00000#5 => .instr (.amoaddD (fieldRd w) (fieldRs1 w) (fieldRs2 w) (fmt2 w))
  | 0b00100#5 => .instr (.amoxorD (fieldRd w) (fieldRs1 w) (fieldRs2 w) (fmt2 w))
  | 0b01100#5 => .instr (.amoandD (fieldRd w) (fieldRs1 w) (fieldRs2 w) (fmt2 w))
  | 0b01000#5 => .instr (.amoorD (fieldRd w) (fieldRs1 w) (fieldRs2 w) (fmt2 w))
  | 0b10000#5 => .instr (.amominD (fieldRd w) (fieldRs1 w) (fieldRs2 w) (fmt2 w))
  | 0b10100#5 => .instr (.amomaxD (fieldRd w) (fieldRs1 w) (fieldRs2 w) (fmt2 w))
  | 0b11000#5 => .instr (.amominuD (fieldRd w) (fieldRs1 w) (fieldRs2 w) (fmt2 w))
  | 0b11100#5 => .instr (.amomaxuD (fieldRd w) (fieldRs1 w) (fieldRs2 w) (fmt2 w))
  | _ => .illegal .amoOperation

/-- AMO (R180): the width by `funct3`, then the operation. -/
def decodeAmo (w : Word) : Decoded :=
  match funct3 w with
  | 0b010#3 => decodeAmoW w
  | 0b011#3 => decodeAmoD w
  | _ => .illegal .amoWidth

/-- A fused multiply-add (R220): `fmt` selects the precision, given the instruction of each. -/
def decodeFma (w : Word) (single double : Reg → Reg → Reg → Reg → Rm → Instr) : Decoded :=
  match fmt2 w with
  | 0b00#2 => .instr (single (fieldRd w) (fieldRs1 w) (fieldRs2 w) (funct5 w) (funct3 w))
  | 0b01#2 => .instr (double (fieldRd w) (fieldRs1 w) (fieldRs2 w) (funct5 w) (funct3 w))
  | _ => .illegal .fmaFormat

/-! The OP-FP arms of R240 fall into a few shapes, by which of `rs2` and `funct3` selects. -/

/-- Neither selects: two sources and a rounding mode. -/
def opFpArith (w : Word) (i : Reg → Reg → Reg → Rm → Instr) : Decoded :=
  .instr (i (fieldRd w) (fieldRs1 w) (fieldRs2 w) (funct3 w))

/-- `rs2` is a selector with one value; the rounding mode is an operand. -/
def opFpUnary (w : Word) (sel : Reg) (i : Reg → Reg → Rm → Instr) : Decoded :=
  if fieldRs2 w = sel then .instr (i (fieldRd w) (fieldRs1 w) (funct3 w)) else .illegal .opFpSelector

/-- `rs2` selects the integer type of a conversion: w, wu, l, lu (R240). -/
def opFpConvert (w : Word) (cw cwu cl clu : Reg → Reg → Rm → Instr) : Decoded :=
  match fieldRs2 w with
  | 0b00000#5 => .instr (cw (fieldRd w) (fieldRs1 w) (funct3 w))
  | 0b00001#5 => .instr (cwu (fieldRd w) (fieldRs1 w) (funct3 w))
  | 0b00010#5 => .instr (cl (fieldRd w) (fieldRs1 w) (funct3 w))
  | 0b00011#5 => .instr (clu (fieldRd w) (fieldRs1 w) (funct3 w))
  | _ => .illegal .opFpSelector

/-- `funct3` selects among three two-source operations: sign injection and the compares. -/
def opFpSelect3 (w : Word) (f0 f1 f2 : Reg → Reg → Reg → Instr) : Decoded :=
  match funct3 w with
  | 0b000#3 => .instr (f0 (fieldRd w) (fieldRs1 w) (fieldRs2 w))
  | 0b001#3 => .instr (f1 (fieldRd w) (fieldRs1 w) (fieldRs2 w))
  | 0b010#3 => .instr (f2 (fieldRd w) (fieldRs1 w) (fieldRs2 w))
  | _ => .illegal .opFpSelector

/-- `funct3` selects between two two-source operations: minimum and maximum. -/
def opFpSelect2 (w : Word) (f0 f1 : Reg → Reg → Reg → Instr) : Decoded :=
  match funct3 w with
  | 0b000#3 => .instr (f0 (fieldRd w) (fieldRs1 w) (fieldRs2 w))
  | 0b001#3 => .instr (f1 (fieldRd w) (fieldRs1 w) (fieldRs2 w))
  | _ => .illegal .opFpSelector

/-- `rs2` must be 0 and `funct3` selects: the move out of the FP file and the classification. -/
def opFpMoveClass (w : Word) (move classify : Reg → Reg → Instr) : Decoded :=
  if fieldRs2 w = 0#5 then
    match funct3 w with
    | 0b000#3 => .instr (move (fieldRd w) (fieldRs1 w))
    | 0b001#3 => .instr (classify (fieldRd w) (fieldRs1 w))
    | _ => .illegal .opFpSelector
  else .illegal .opFpSelector

/-- `rs2` and `funct3` must both be 0: the move into the FP file. -/
def opFpMoveIn (w : Word) (move : Reg → Reg → Instr) : Decoded :=
  if fieldRs2 w = 0#5 then
    match funct3 w with
    | 0b000#3 => .instr (move (fieldRd w) (fieldRs1 w))
    | _ => .illegal .opFpSelector
  else .illegal .opFpSelector

/-- OP-FP (R240): all seven bits of `funct7` at once, then the selectors. -/
def decodeOpFp (w : Word) : Decoded :=
  match funct7 w with
  | 0b0000000#7 => opFpArith w .faddS
  | 0b0000001#7 => opFpArith w .faddD
  | 0b0000100#7 => opFpArith w .fsubS
  | 0b0000101#7 => opFpArith w .fsubD
  | 0b0001000#7 => opFpArith w .fmulS
  | 0b0001001#7 => opFpArith w .fmulD
  | 0b0001100#7 => opFpArith w .fdivS
  | 0b0001101#7 => opFpArith w .fdivD
  | 0b0101100#7 => opFpUnary w 0b00000#5 .fsqrtS
  | 0b0101101#7 => opFpUnary w 0b00000#5 .fsqrtD
  | 0b0010000#7 => opFpSelect3 w .fsgnjS .fsgnjnS .fsgnjxS
  | 0b0010001#7 => opFpSelect3 w .fsgnjD .fsgnjnD .fsgnjxD
  | 0b0010100#7 => opFpSelect2 w .fminS .fmaxS
  | 0b0010101#7 => opFpSelect2 w .fminD .fmaxD
  | 0b1010000#7 => opFpSelect3 w .fleS .fltS .feqS
  | 0b1010001#7 => opFpSelect3 w .fleD .fltD .feqD
  | 0b1100000#7 => opFpConvert w .fcvtWS .fcvtWuS .fcvtLS .fcvtLuS
  | 0b1100001#7 => opFpConvert w .fcvtWD .fcvtWuD .fcvtLD .fcvtLuD
  | 0b1101000#7 => opFpConvert w .fcvtSW .fcvtSWu .fcvtSL .fcvtSLu
  | 0b1101001#7 => opFpConvert w .fcvtDW .fcvtDWu .fcvtDL .fcvtDLu
  | 0b1110000#7 => opFpMoveClass w .fmvXW .fclassS
  | 0b1110001#7 => opFpMoveClass w .fmvXD .fclassD
  | 0b1111000#7 => opFpMoveIn w .fmvWX
  | 0b1111001#7 => opFpMoveIn w .fmvDX
  | 0b0100000#7 => opFpUnary w 0b00001#5 .fcvtSD
  | 0b0100001#7 => opFpUnary w 0b00000#5 .fcvtDS
  | _ => .illegal .opFpFunct7

/-- The standard demultiplexer (R127): the eight decoded major opcodes (R94), then the twenty delegated ones (R95).
The last arm stands for the values decode has already sent elsewhere: the four reserved long ones, and the
compressed words' (R123). -/
def decodeStandard (w : Word) : Decoded :=
  match opcode7 w with
  | 0b0000111#7 => decodeLoadFp w
  | 0b0100111#7 => decodeStoreFp w
  | 0b0101111#7 => decodeAmo w
  | 0b1000011#7 => decodeFma w .fmaddS .fmaddD
  | 0b1000111#7 => decodeFma w .fmsubS .fmsubD
  | 0b1001011#7 => decodeFma w .fnmsubS .fnmsubD
  | 0b1001111#7 => decodeFma w .fnmaddS .fnmaddD
  | 0b1010011#7 => decodeOpFp w
  | 0b0000011#7 => .instr .unimpLoad
  | 0b0001011#7 => .instr .unimpCustom0
  | 0b0001111#7 => .instr .unimpMiscMem
  | 0b0010011#7 => .instr .unimpOpImm
  | 0b0010111#7 => .instr .unimpAuipc
  | 0b0011011#7 => .instr .unimpOpImm32
  | 0b0100011#7 => .instr .unimpStore
  | 0b0101011#7 => .instr .unimpCustom1
  | 0b0110011#7 => .instr .unimpOp
  | 0b0110111#7 => .instr .unimpLui
  | 0b0111011#7 => .instr .unimpOp32
  | 0b1010111#7 => .instr .unimpOpV
  | 0b1011011#7 => .instr .unimpCustom2
  | 0b1100011#7 => .instr .unimpBranch
  | 0b1100111#7 => .instr .unimpJalr
  | 0b1101011#7 => .instr .unimpReserved
  | 0b1101111#7 => .instr .unimpJal
  | 0b1110011#7 => .instr .unimpSystem
  | 0b1110111#7 => .instr .unimpOpP
  | 0b1111011#7 => .instr .unimpCustom3
  | _ => .instr .illegalLong

/-- The format discriminator, the first step of decode (R123, R133): compressed, then reserved long, then standard.
Total on every word (R130). -/
def decode (w : Word) : Decoded :=
  if quadrant w ≠ 0b11#2 then .instr (decodeCompressed w)
  else if lengthPrefix w = 0b11111#5 then .instr .illegalLong
  else decodeStandard w

/-- The part of the word the block may look at (R63): the low half of a compressed word, five bits of a reserved long
one, all of a standard one. -/
def bitsRead (w : Word) : Word :=
  if quadrant w ≠ 0b11#2 then w &&& 0x0000FFFF#32
  else if lengthPrefix w = 0b11111#5 then w &&& 0x0000001F#32
  else w

/-- The instruction decoded from an instruction of `nbits` bits numbered as opcode_table.json numbers them (a row's
bit 0 is the word's bit 0, R9); bits above `nbits` are 0. A word that matches no row gives none. -/
def decodeTableWord (nbits w : Nat) : Option Instr :=
  match decode (BitVec.ofNat 32 (w % 2 ^ nbits)) with
  | .instr i => some i
  | .illegal _ => none

/-! ### The encoder -/

/-- R and R-AMO (with `funct7 = funct5 ++ aqrl`): R82. -/
def encR (f7 : BitVec 7) (rs2 rs1 : Reg) (f3 : BitVec 3) (rd : Reg) (op : BitVec 7) : Word :=
  (f7 ++ rs2 ++ rs1 ++ f3 ++ rd ++ op).setWidth 32

/-- R4: R82, R91. -/
def encR4 (rs3 : Reg) (fmt : BitVec 2) (rs2 rs1 : Reg) (f3 : BitVec 3) (rd : Reg) (op : BitVec 7) : Word :=
  (rs3 ++ fmt ++ rs2 ++ rs1 ++ f3 ++ rd ++ op).setWidth 32

/-- I: R82, R85. -/
def encI (imm : Imm) (rs1 : Reg) (f3 : BitVec 3) (rd : Reg) (op : BitVec 7) : Word :=
  (imm.extractLsb' 0 12 ++ rs1 ++ f3 ++ rd ++ op).setWidth 32

/-- S: R82, R86. -/
def encS (imm : Imm) (rs2 rs1 : Reg) (f3 : BitVec 3) (op : BitVec 7) : Word :=
  (imm.extractLsb' 5 7 ++ rs2 ++ rs1 ++ f3 ++ imm.extractLsb' 0 5 ++ op).setWidth 32

/-- The low three bits of a register index: what a compressed field holds of registers 8 to 15 (R84). -/
def creg (r : Reg) : BitVec 3 := r.extractLsb' 0 3

/-- CL and CS (R83, R87); the word's upper half is 0. -/
def encCL (f3 : BitVec 3) (imm : Imm) (rs1 r : Reg) : Word :=
  (f3 ++ imm.extractLsb' 3 3 ++ creg rs1 ++ imm.extractLsb' 6 2 ++ creg r ++ 0b00#2).setWidth 32

/-- CI of C.FLDSP (R83, R88). -/
def encCI (f3 : BitVec 3) (imm : Imm) (rd : Reg) : Word :=
  (f3 ++ imm.extractLsb' 5 1 ++ rd ++ imm.extractLsb' 3 2 ++ imm.extractLsb' 6 3 ++ 0b10#2).setWidth 32

/-- CSS of C.FSDSP (R83, R89). -/
def encCSS (f3 : BitVec 3) (imm : Imm) (rs2 : Reg) : Word :=
  (f3 ++ imm.extractLsb' 3 3 ++ imm.extractLsb' 6 3 ++ rs2 ++ 0b10#2).setWidth 32

/-- A row without operands of the compressed map (R97): its pair, every other bit 0. -/
def encPair (f3 : BitVec 3) (q : BitVec 2) : Word := (f3 ++ 0#11 ++ q).setWidth 32

/-- A row without operands of the standard map (R95): its major opcode, every other bit 0. -/
def encMajor (op : BitVec 7) : Word := op.setWidth 32

/-- The word of an instruction (a compressed one stands in the low half, the upper half is 0). For a delegated or
reserved row it is the row's word with every bit the row leaves free at 0. -/
def encode : Instr → Word
  | .cFld rd rs1 imm => encCL 0b001#3 imm rs1 rd
  | .cFsd rs1 rs2 imm => encCL 0b101#3 imm rs1 rs2
  | .cFldsp rd imm => encCI 0b001#3 imm rd
  | .cFsdsp rs2 imm => encCSS 0b101#3 imm rs2
  | .unimpCAddi4spn => encPair 0b000#3 0b00#2
  | .unimpCLw => encPair 0b010#3 0b00#2
  | .unimpCLd => encPair 0b011#3 0b00#2
  | .unimpCReserved => encPair 0b100#3 0b00#2
  | .unimpCSw => encPair 0b110#3 0b00#2
  | .unimpCSd => encPair 0b111#3 0b00#2
  | .unimpCNopAddi => encPair 0b000#3 0b01#2
  | .unimpCAddiw => encPair 0b001#3 0b01#2
  | .unimpCLi => encPair 0b010#3 0b01#2
  | .unimpCLuiAddi16sp => encPair 0b011#3 0b01#2
  | .unimpCMiscAlu => encPair 0b100#3 0b01#2
  | .unimpCJ => encPair 0b101#3 0b01#2
  | .unimpCBeqz => encPair 0b110#3 0b01#2
  | .unimpCBnez => encPair 0b111#3 0b01#2
  | .unimpCSlli => encPair 0b000#3 0b10#2
  | .unimpCLwsp => encPair 0b010#3 0b10#2
  | .unimpCLdsp => encPair 0b011#3 0b10#2
  | .unimpCJrMvAdd => encPair 0b100#3 0b10#2
  | .unimpCSwsp => encPair 0b110#3 0b10#2
  | .unimpCSdsp => encPair 0b111#3 0b10#2
  | .illegalLong => encMajor 0b0011111#7
  | .flw rd rs1 imm => encI imm rs1 0b010#3 rd 0b0000111#7
  | .fld rd rs1 imm => encI imm rs1 0b011#3 rd 0b0000111#7
  | .fsw rs1 rs2 imm => encS imm rs2 rs1 0b010#3 0b0100111#7
  | .fsd rs1 rs2 imm => encS imm rs2 rs1 0b011#3 0b0100111#7
  | .lrW rd rs1 aqrl => encR (0b00010#5 ++ aqrl) 0#5 rs1 0b010#3 rd 0b0101111#7
  | .scW rd rs1 rs2 aqrl => encR (0b00011#5 ++ aqrl) rs2 rs1 0b010#3 rd 0b0101111#7
  | .amoswapW rd rs1 rs2 aqrl => encR (0b00001#5 ++ aqrl) rs2 rs1 0b010#3 rd 0b0101111#7
  | .amoaddW rd rs1 rs2 aqrl => encR (0b00000#5 ++ aqrl) rs2 rs1 0b010#3 rd 0b0101111#7
  | .amoxorW rd rs1 rs2 aqrl => encR (0b00100#5 ++ aqrl) rs2 rs1 0b010#3 rd 0b0101111#7
  | .amoandW rd rs1 rs2 aqrl => encR (0b01100#5 ++ aqrl) rs2 rs1 0b010#3 rd 0b0101111#7
  | .amoorW rd rs1 rs2 aqrl => encR (0b01000#5 ++ aqrl) rs2 rs1 0b010#3 rd 0b0101111#7
  | .amominW rd rs1 rs2 aqrl => encR (0b10000#5 ++ aqrl) rs2 rs1 0b010#3 rd 0b0101111#7
  | .amomaxW rd rs1 rs2 aqrl => encR (0b10100#5 ++ aqrl) rs2 rs1 0b010#3 rd 0b0101111#7
  | .amominuW rd rs1 rs2 aqrl => encR (0b11000#5 ++ aqrl) rs2 rs1 0b010#3 rd 0b0101111#7
  | .amomaxuW rd rs1 rs2 aqrl => encR (0b11100#5 ++ aqrl) rs2 rs1 0b010#3 rd 0b0101111#7
  | .lrD rd rs1 aqrl => encR (0b00010#5 ++ aqrl) 0#5 rs1 0b011#3 rd 0b0101111#7
  | .scD rd rs1 rs2 aqrl => encR (0b00011#5 ++ aqrl) rs2 rs1 0b011#3 rd 0b0101111#7
  | .amoswapD rd rs1 rs2 aqrl => encR (0b00001#5 ++ aqrl) rs2 rs1 0b011#3 rd 0b0101111#7
  | .amoaddD rd rs1 rs2 aqrl => encR (0b00000#5 ++ aqrl) rs2 rs1 0b011#3 rd 0b0101111#7
  | .amoxorD rd rs1 rs2 aqrl => encR (0b00100#5 ++ aqrl) rs2 rs1 0b011#3 rd 0b0101111#7
  | .amoandD rd rs1 rs2 aqrl => encR (0b01100#5 ++ aqrl) rs2 rs1 0b011#3 rd 0b0101111#7
  | .amoorD rd rs1 rs2 aqrl => encR (0b01000#5 ++ aqrl) rs2 rs1 0b011#3 rd 0b0101111#7
  | .amominD rd rs1 rs2 aqrl => encR (0b10000#5 ++ aqrl) rs2 rs1 0b011#3 rd 0b0101111#7
  | .amomaxD rd rs1 rs2 aqrl => encR (0b10100#5 ++ aqrl) rs2 rs1 0b011#3 rd 0b0101111#7
  | .amominuD rd rs1 rs2 aqrl => encR (0b11000#5 ++ aqrl) rs2 rs1 0b011#3 rd 0b0101111#7
  | .amomaxuD rd rs1 rs2 aqrl => encR (0b11100#5 ++ aqrl) rs2 rs1 0b011#3 rd 0b0101111#7
  | .fmaddS rd rs1 rs2 rs3 rm => encR4 rs3 0b00#2 rs2 rs1 rm rd 0b1000011#7
  | .fmsubS rd rs1 rs2 rs3 rm => encR4 rs3 0b00#2 rs2 rs1 rm rd 0b1000111#7
  | .fnmsubS rd rs1 rs2 rs3 rm => encR4 rs3 0b00#2 rs2 rs1 rm rd 0b1001011#7
  | .fnmaddS rd rs1 rs2 rs3 rm => encR4 rs3 0b00#2 rs2 rs1 rm rd 0b1001111#7
  | .fmaddD rd rs1 rs2 rs3 rm => encR4 rs3 0b01#2 rs2 rs1 rm rd 0b1000011#7
  | .fmsubD rd rs1 rs2 rs3 rm => encR4 rs3 0b01#2 rs2 rs1 rm rd 0b1000111#7
  | .fnmsubD rd rs1 rs2 rs3 rm => encR4 rs3 0b01#2 rs2 rs1 rm rd 0b1001011#7
  | .fnmaddD rd rs1 rs2 rs3 rm => encR4 rs3 0b01#2 rs2 rs1 rm rd 0b1001111#7
  | .faddS rd rs1 rs2 rm => encR 0b0000000#7 rs2 rs1 rm rd 0b1010011#7
  | .fsubS rd rs1 rs2 rm => encR 0b0000100#7 rs2 rs1 rm rd 0b1010011#7
  | .fmulS rd rs1 rs2 rm => encR 0b0001000#7 rs2 rs1 rm rd 0b1010011#7
  | .fdivS rd rs1 rs2 rm => encR 0b0001100#7 rs2 rs1 rm rd 0b1010011#7
  | .fsqrtS rd rs1 rm => encR 0b0101100#7 0b00000#5 rs1 rm rd 0b1010011#7
  | .fsgnjS rd rs1 rs2 => encR 0b0010000#7 rs2 rs1 0b000#3 rd 0b1010011#7
  | .fsgnjnS rd rs1 rs2 => encR 0b0010000#7 rs2 rs1 0b001#3 rd 0b1010011#7
  | .fsgnjxS rd rs1 rs2 => encR 0b0010000#7 rs2 rs1 0b010#3 rd 0b1010011#7
  | .fminS rd rs1 rs2 => encR 0b0010100#7 rs2 rs1 0b000#3 rd 0b1010011#7
  | .fmaxS rd rs1 rs2 => encR 0b0010100#7 rs2 rs1 0b001#3 rd 0b1010011#7
  | .fcvtWS rd rs1 rm => encR 0b1100000#7 0b00000#5 rs1 rm rd 0b1010011#7
  | .fcvtWuS rd rs1 rm => encR 0b1100000#7 0b00001#5 rs1 rm rd 0b1010011#7
  | .fcvtLS rd rs1 rm => encR 0b1100000#7 0b00010#5 rs1 rm rd 0b1010011#7
  | .fcvtLuS rd rs1 rm => encR 0b1100000#7 0b00011#5 rs1 rm rd 0b1010011#7
  | .fmvXW rd rs1 => encR 0b1110000#7 0b00000#5 rs1 0b000#3 rd 0b1010011#7
  | .fclassS rd rs1 => encR 0b1110000#7 0b00000#5 rs1 0b001#3 rd 0b1010011#7
  | .feqS rd rs1 rs2 => encR 0b1010000#7 rs2 rs1 0b010#3 rd 0b1010011#7
  | .fltS rd rs1 rs2 => encR 0b1010000#7 rs2 rs1 0b001#3 rd 0b1010011#7
  | .fleS rd rs1 rs2 => encR 0b1010000#7 rs2 rs1 0b000#3 rd 0b1010011#7
  | .fcvtSW rd rs1 rm => encR 0b1101000#7 0b00000#5 rs1 rm rd 0b1010011#7
  | .fcvtSWu rd rs1 rm => encR 0b1101000#7 0b00001#5 rs1 rm rd 0b1010011#7
  | .fcvtSL rd rs1 rm => encR 0b1101000#7 0b00010#5 rs1 rm rd 0b1010011#7
  | .fcvtSLu rd rs1 rm => encR 0b1101000#7 0b00011#5 rs1 rm rd 0b1010011#7
  | .fmvWX rd rs1 => encR 0b1111000#7 0b00000#5 rs1 0b000#3 rd 0b1010011#7
  | .fcvtSD rd rs1 rm => encR 0b0100000#7 0b00001#5 rs1 rm rd 0b1010011#7
  | .faddD rd rs1 rs2 rm => encR 0b0000001#7 rs2 rs1 rm rd 0b1010011#7
  | .fsubD rd rs1 rs2 rm => encR 0b0000101#7 rs2 rs1 rm rd 0b1010011#7
  | .fmulD rd rs1 rs2 rm => encR 0b0001001#7 rs2 rs1 rm rd 0b1010011#7
  | .fdivD rd rs1 rs2 rm => encR 0b0001101#7 rs2 rs1 rm rd 0b1010011#7
  | .fsqrtD rd rs1 rm => encR 0b0101101#7 0b00000#5 rs1 rm rd 0b1010011#7
  | .fsgnjD rd rs1 rs2 => encR 0b0010001#7 rs2 rs1 0b000#3 rd 0b1010011#7
  | .fsgnjnD rd rs1 rs2 => encR 0b0010001#7 rs2 rs1 0b001#3 rd 0b1010011#7
  | .fsgnjxD rd rs1 rs2 => encR 0b0010001#7 rs2 rs1 0b010#3 rd 0b1010011#7
  | .fminD rd rs1 rs2 => encR 0b0010101#7 rs2 rs1 0b000#3 rd 0b1010011#7
  | .fmaxD rd rs1 rs2 => encR 0b0010101#7 rs2 rs1 0b001#3 rd 0b1010011#7
  | .fcvtWD rd rs1 rm => encR 0b1100001#7 0b00000#5 rs1 rm rd 0b1010011#7
  | .fcvtWuD rd rs1 rm => encR 0b1100001#7 0b00001#5 rs1 rm rd 0b1010011#7
  | .fcvtLD rd rs1 rm => encR 0b1100001#7 0b00010#5 rs1 rm rd 0b1010011#7
  | .fcvtLuD rd rs1 rm => encR 0b1100001#7 0b00011#5 rs1 rm rd 0b1010011#7
  | .fmvXD rd rs1 => encR 0b1110001#7 0b00000#5 rs1 0b000#3 rd 0b1010011#7
  | .fclassD rd rs1 => encR 0b1110001#7 0b00000#5 rs1 0b001#3 rd 0b1010011#7
  | .feqD rd rs1 rs2 => encR 0b1010001#7 rs2 rs1 0b010#3 rd 0b1010011#7
  | .fltD rd rs1 rs2 => encR 0b1010001#7 rs2 rs1 0b001#3 rd 0b1010011#7
  | .fleD rd rs1 rs2 => encR 0b1010001#7 rs2 rs1 0b000#3 rd 0b1010011#7
  | .fcvtDW rd rs1 rm => encR 0b1101001#7 0b00000#5 rs1 rm rd 0b1010011#7
  | .fcvtDWu rd rs1 rm => encR 0b1101001#7 0b00001#5 rs1 rm rd 0b1010011#7
  | .fcvtDL rd rs1 rm => encR 0b1101001#7 0b00010#5 rs1 rm rd 0b1010011#7
  | .fcvtDLu rd rs1 rm => encR 0b1101001#7 0b00011#5 rs1 rm rd 0b1010011#7
  | .fmvDX rd rs1 => encR 0b1111001#7 0b00000#5 rs1 0b000#3 rd 0b1010011#7
  | .fcvtDS rd rs1 rm => encR 0b0100001#7 0b00000#5 rs1 rm rd 0b1010011#7
  | .unimpLoad => encMajor 0b0000011#7
  | .unimpCustom0 => encMajor 0b0001011#7
  | .unimpMiscMem => encMajor 0b0001111#7
  | .unimpOpImm => encMajor 0b0010011#7
  | .unimpAuipc => encMajor 0b0010111#7
  | .unimpOpImm32 => encMajor 0b0011011#7
  | .unimpStore => encMajor 0b0100011#7
  | .unimpCustom1 => encMajor 0b0101011#7
  | .unimpOp => encMajor 0b0110011#7
  | .unimpLui => encMajor 0b0110111#7
  | .unimpOp32 => encMajor 0b0111011#7
  | .unimpOpV => encMajor 0b1010111#7
  | .unimpCustom2 => encMajor 0b1011011#7
  | .unimpBranch => encMajor 0b1100011#7
  | .unimpJalr => encMajor 0b1100111#7
  | .unimpReserved => encMajor 0b1101011#7
  | .unimpJal => encMajor 0b1101111#7
  | .unimpSystem => encMajor 0b1110011#7
  | .unimpOpP => encMajor 0b1110111#7
  | .unimpCustom3 => encMajor 0b1111011#7

/-- How many bytes the encoding has (R80). The reserved long row counts the two bytes its record gives it (R124). -/
def Instr.size : Instr → Nat
  | .cFld _ _ _ | .cFsd _ _ _ | .cFldsp _ _ | .cFsdsp _ _ | .unimpCAddi4spn | .unimpCLw | .unimpCLd
  | .unimpCReserved | .unimpCSw | .unimpCSd | .unimpCNopAddi | .unimpCAddiw | .unimpCLi | .unimpCLuiAddi16sp
  | .unimpCMiscAlu | .unimpCJ | .unimpCBeqz | .unimpCBnez | .unimpCSlli | .unimpCLwsp | .unimpCLdsp
  | .unimpCJrMvAdd | .unimpCSwsp | .unimpCSdsp | .illegalLong => 2
  | .flw _ _ _ | .fld _ _ _ | .fsw _ _ _ | .fsd _ _ _ | .lrW _ _ _ | .scW _ _ _ _ | .amoswapW _ _ _ _
  | .amoaddW _ _ _ _ | .amoxorW _ _ _ _ | .amoandW _ _ _ _ | .amoorW _ _ _ _ | .amominW _ _ _ _
  | .amomaxW _ _ _ _ | .amominuW _ _ _ _ | .amomaxuW _ _ _ _ | .lrD _ _ _ | .scD _ _ _ _ | .amoswapD _ _ _ _
  | .amoaddD _ _ _ _ | .amoxorD _ _ _ _ | .amoandD _ _ _ _ | .amoorD _ _ _ _ | .amominD _ _ _ _
  | .amomaxD _ _ _ _ | .amominuD _ _ _ _ | .amomaxuD _ _ _ _ | .fmaddS _ _ _ _ _ | .fmsubS _ _ _ _ _
  | .fnmsubS _ _ _ _ _ | .fnmaddS _ _ _ _ _ | .fmaddD _ _ _ _ _ | .fmsubD _ _ _ _ _ | .fnmsubD _ _ _ _ _
  | .fnmaddD _ _ _ _ _ | .faddS _ _ _ _ | .fsubS _ _ _ _ | .fmulS _ _ _ _ | .fdivS _ _ _ _ | .fsqrtS _ _ _
  | .fsgnjS _ _ _ | .fsgnjnS _ _ _ | .fsgnjxS _ _ _ | .fminS _ _ _ | .fmaxS _ _ _ | .fcvtWS _ _ _
  | .fcvtWuS _ _ _ | .fcvtLS _ _ _ | .fcvtLuS _ _ _ | .fmvXW _ _ | .fclassS _ _ | .feqS _ _ _ | .fltS _ _ _
  | .fleS _ _ _ | .fcvtSW _ _ _ | .fcvtSWu _ _ _ | .fcvtSL _ _ _ | .fcvtSLu _ _ _ | .fmvWX _ _ | .fcvtSD _ _ _
  | .faddD _ _ _ _ | .fsubD _ _ _ _ | .fmulD _ _ _ _ | .fdivD _ _ _ _ | .fsqrtD _ _ _ | .fsgnjD _ _ _
  | .fsgnjnD _ _ _ | .fsgnjxD _ _ _ | .fminD _ _ _ | .fmaxD _ _ _ | .fcvtWD _ _ _ | .fcvtWuD _ _ _
  | .fcvtLD _ _ _ | .fcvtLuD _ _ _ | .fmvXD _ _ | .fclassD _ _ | .feqD _ _ _ | .fltD _ _ _ | .fleD _ _ _
  | .fcvtDW _ _ _ | .fcvtDWu _ _ _ | .fcvtDL _ _ _ | .fcvtDLu _ _ _ | .fmvDX _ _ | .fcvtDS _ _ _ | .unimpLoad
  | .unimpCustom0 | .unimpMiscMem | .unimpOpImm | .unimpAuipc | .unimpOpImm32 | .unimpStore | .unimpCustom1
  | .unimpOp | .unimpLui | .unimpOp32 | .unimpOpV | .unimpCustom2 | .unimpBranch | .unimpJalr | .unimpReserved
  | .unimpJal | .unimpSystem | .unimpOpP | .unimpCustom3 => 4

/-- The bytes of an instruction in instruction memory, lowest address first (R61). -/
def encodeBytes (i : Instr) : List Byte :=
  (List.range i.size).map fun k => (encode i).extractLsb' (8 * k) 8

/-! ### The opcode table -/

/-- A row of spec/opcode_table.json: the word's bits under `mask` must equal `value`. -/
structure Row where
  mask : Word
  value : Word
  deriving DecidableEq, Repr

/-- Whether a word matches a row. No 16-bit row has a mask bit above bit 15, so only the low half is compared. -/
def Row.covers (r : Row) (w : Word) : Bool := decide (w &&& r.mask = r.value)

/-- The row an instruction stands for. -/
def Instr.row : Instr → Row
  | .cFld _ _ _ => ⟨0x0000E003#32, 0x00002000#32⟩
  | .cFsd _ _ _ => ⟨0x0000E003#32, 0x0000A000#32⟩
  | .cFldsp _ _ => ⟨0x0000E003#32, 0x00002002#32⟩
  | .cFsdsp _ _ => ⟨0x0000E003#32, 0x0000A002#32⟩
  | .unimpCAddi4spn => ⟨0x0000E003#32, 0x00000000#32⟩
  | .unimpCLw => ⟨0x0000E003#32, 0x00004000#32⟩
  | .unimpCLd => ⟨0x0000E003#32, 0x00006000#32⟩
  | .unimpCReserved => ⟨0x0000E003#32, 0x00008000#32⟩
  | .unimpCSw => ⟨0x0000E003#32, 0x0000C000#32⟩
  | .unimpCSd => ⟨0x0000E003#32, 0x0000E000#32⟩
  | .unimpCNopAddi => ⟨0x0000E003#32, 0x00000001#32⟩
  | .unimpCAddiw => ⟨0x0000E003#32, 0x00002001#32⟩
  | .unimpCLi => ⟨0x0000E003#32, 0x00004001#32⟩
  | .unimpCLuiAddi16sp => ⟨0x0000E003#32, 0x00006001#32⟩
  | .unimpCMiscAlu => ⟨0x0000E003#32, 0x00008001#32⟩
  | .unimpCJ => ⟨0x0000E003#32, 0x0000A001#32⟩
  | .unimpCBeqz => ⟨0x0000E003#32, 0x0000C001#32⟩
  | .unimpCBnez => ⟨0x0000E003#32, 0x0000E001#32⟩
  | .unimpCSlli => ⟨0x0000E003#32, 0x00000002#32⟩
  | .unimpCLwsp => ⟨0x0000E003#32, 0x00004002#32⟩
  | .unimpCLdsp => ⟨0x0000E003#32, 0x00006002#32⟩
  | .unimpCJrMvAdd => ⟨0x0000E003#32, 0x00008002#32⟩
  | .unimpCSwsp => ⟨0x0000E003#32, 0x0000C002#32⟩
  | .unimpCSdsp => ⟨0x0000E003#32, 0x0000E002#32⟩
  | .illegalLong => ⟨0x0000001F#32, 0x0000001F#32⟩
  | .flw _ _ _ => ⟨0x0000707F#32, 0x00002007#32⟩
  | .fld _ _ _ => ⟨0x0000707F#32, 0x00003007#32⟩
  | .fsw _ _ _ => ⟨0x0000707F#32, 0x00002027#32⟩
  | .fsd _ _ _ => ⟨0x0000707F#32, 0x00003027#32⟩
  | .lrW _ _ _ => ⟨0xF9F0707F#32, 0x1000202F#32⟩
  | .scW _ _ _ _ => ⟨0xF800707F#32, 0x1800202F#32⟩
  | .amoswapW _ _ _ _ => ⟨0xF800707F#32, 0x0800202F#32⟩
  | .amoaddW _ _ _ _ => ⟨0xF800707F#32, 0x0000202F#32⟩
  | .amoxorW _ _ _ _ => ⟨0xF800707F#32, 0x2000202F#32⟩
  | .amoandW _ _ _ _ => ⟨0xF800707F#32, 0x6000202F#32⟩
  | .amoorW _ _ _ _ => ⟨0xF800707F#32, 0x4000202F#32⟩
  | .amominW _ _ _ _ => ⟨0xF800707F#32, 0x8000202F#32⟩
  | .amomaxW _ _ _ _ => ⟨0xF800707F#32, 0xA000202F#32⟩
  | .amominuW _ _ _ _ => ⟨0xF800707F#32, 0xC000202F#32⟩
  | .amomaxuW _ _ _ _ => ⟨0xF800707F#32, 0xE000202F#32⟩
  | .lrD _ _ _ => ⟨0xF9F0707F#32, 0x1000302F#32⟩
  | .scD _ _ _ _ => ⟨0xF800707F#32, 0x1800302F#32⟩
  | .amoswapD _ _ _ _ => ⟨0xF800707F#32, 0x0800302F#32⟩
  | .amoaddD _ _ _ _ => ⟨0xF800707F#32, 0x0000302F#32⟩
  | .amoxorD _ _ _ _ => ⟨0xF800707F#32, 0x2000302F#32⟩
  | .amoandD _ _ _ _ => ⟨0xF800707F#32, 0x6000302F#32⟩
  | .amoorD _ _ _ _ => ⟨0xF800707F#32, 0x4000302F#32⟩
  | .amominD _ _ _ _ => ⟨0xF800707F#32, 0x8000302F#32⟩
  | .amomaxD _ _ _ _ => ⟨0xF800707F#32, 0xA000302F#32⟩
  | .amominuD _ _ _ _ => ⟨0xF800707F#32, 0xC000302F#32⟩
  | .amomaxuD _ _ _ _ => ⟨0xF800707F#32, 0xE000302F#32⟩
  | .fmaddS _ _ _ _ _ => ⟨0x0600007F#32, 0x00000043#32⟩
  | .fmsubS _ _ _ _ _ => ⟨0x0600007F#32, 0x00000047#32⟩
  | .fnmsubS _ _ _ _ _ => ⟨0x0600007F#32, 0x0000004B#32⟩
  | .fnmaddS _ _ _ _ _ => ⟨0x0600007F#32, 0x0000004F#32⟩
  | .fmaddD _ _ _ _ _ => ⟨0x0600007F#32, 0x02000043#32⟩
  | .fmsubD _ _ _ _ _ => ⟨0x0600007F#32, 0x02000047#32⟩
  | .fnmsubD _ _ _ _ _ => ⟨0x0600007F#32, 0x0200004B#32⟩
  | .fnmaddD _ _ _ _ _ => ⟨0x0600007F#32, 0x0200004F#32⟩
  | .faddS _ _ _ _ => ⟨0xFE00007F#32, 0x00000053#32⟩
  | .fsubS _ _ _ _ => ⟨0xFE00007F#32, 0x08000053#32⟩
  | .fmulS _ _ _ _ => ⟨0xFE00007F#32, 0x10000053#32⟩
  | .fdivS _ _ _ _ => ⟨0xFE00007F#32, 0x18000053#32⟩
  | .fsqrtS _ _ _ => ⟨0xFFF0007F#32, 0x58000053#32⟩
  | .fsgnjS _ _ _ => ⟨0xFE00707F#32, 0x20000053#32⟩
  | .fsgnjnS _ _ _ => ⟨0xFE00707F#32, 0x20001053#32⟩
  | .fsgnjxS _ _ _ => ⟨0xFE00707F#32, 0x20002053#32⟩
  | .fminS _ _ _ => ⟨0xFE00707F#32, 0x28000053#32⟩
  | .fmaxS _ _ _ => ⟨0xFE00707F#32, 0x28001053#32⟩
  | .fcvtWS _ _ _ => ⟨0xFFF0007F#32, 0xC0000053#32⟩
  | .fcvtWuS _ _ _ => ⟨0xFFF0007F#32, 0xC0100053#32⟩
  | .fcvtLS _ _ _ => ⟨0xFFF0007F#32, 0xC0200053#32⟩
  | .fcvtLuS _ _ _ => ⟨0xFFF0007F#32, 0xC0300053#32⟩
  | .fmvXW _ _ => ⟨0xFFF0707F#32, 0xE0000053#32⟩
  | .fclassS _ _ => ⟨0xFFF0707F#32, 0xE0001053#32⟩
  | .feqS _ _ _ => ⟨0xFE00707F#32, 0xA0002053#32⟩
  | .fltS _ _ _ => ⟨0xFE00707F#32, 0xA0001053#32⟩
  | .fleS _ _ _ => ⟨0xFE00707F#32, 0xA0000053#32⟩
  | .fcvtSW _ _ _ => ⟨0xFFF0007F#32, 0xD0000053#32⟩
  | .fcvtSWu _ _ _ => ⟨0xFFF0007F#32, 0xD0100053#32⟩
  | .fcvtSL _ _ _ => ⟨0xFFF0007F#32, 0xD0200053#32⟩
  | .fcvtSLu _ _ _ => ⟨0xFFF0007F#32, 0xD0300053#32⟩
  | .fmvWX _ _ => ⟨0xFFF0707F#32, 0xF0000053#32⟩
  | .fcvtSD _ _ _ => ⟨0xFFF0007F#32, 0x40100053#32⟩
  | .faddD _ _ _ _ => ⟨0xFE00007F#32, 0x02000053#32⟩
  | .fsubD _ _ _ _ => ⟨0xFE00007F#32, 0x0A000053#32⟩
  | .fmulD _ _ _ _ => ⟨0xFE00007F#32, 0x12000053#32⟩
  | .fdivD _ _ _ _ => ⟨0xFE00007F#32, 0x1A000053#32⟩
  | .fsqrtD _ _ _ => ⟨0xFFF0007F#32, 0x5A000053#32⟩
  | .fsgnjD _ _ _ => ⟨0xFE00707F#32, 0x22000053#32⟩
  | .fsgnjnD _ _ _ => ⟨0xFE00707F#32, 0x22001053#32⟩
  | .fsgnjxD _ _ _ => ⟨0xFE00707F#32, 0x22002053#32⟩
  | .fminD _ _ _ => ⟨0xFE00707F#32, 0x2A000053#32⟩
  | .fmaxD _ _ _ => ⟨0xFE00707F#32, 0x2A001053#32⟩
  | .fcvtWD _ _ _ => ⟨0xFFF0007F#32, 0xC2000053#32⟩
  | .fcvtWuD _ _ _ => ⟨0xFFF0007F#32, 0xC2100053#32⟩
  | .fcvtLD _ _ _ => ⟨0xFFF0007F#32, 0xC2200053#32⟩
  | .fcvtLuD _ _ _ => ⟨0xFFF0007F#32, 0xC2300053#32⟩
  | .fmvXD _ _ => ⟨0xFFF0707F#32, 0xE2000053#32⟩
  | .fclassD _ _ => ⟨0xFFF0707F#32, 0xE2001053#32⟩
  | .feqD _ _ _ => ⟨0xFE00707F#32, 0xA2002053#32⟩
  | .fltD _ _ _ => ⟨0xFE00707F#32, 0xA2001053#32⟩
  | .fleD _ _ _ => ⟨0xFE00707F#32, 0xA2000053#32⟩
  | .fcvtDW _ _ _ => ⟨0xFFF0007F#32, 0xD2000053#32⟩
  | .fcvtDWu _ _ _ => ⟨0xFFF0007F#32, 0xD2100053#32⟩
  | .fcvtDL _ _ _ => ⟨0xFFF0007F#32, 0xD2200053#32⟩
  | .fcvtDLu _ _ _ => ⟨0xFFF0007F#32, 0xD2300053#32⟩
  | .fmvDX _ _ => ⟨0xFFF0707F#32, 0xF2000053#32⟩
  | .fcvtDS _ _ _ => ⟨0xFFF0007F#32, 0x42000053#32⟩
  | .unimpLoad => ⟨0x0000007F#32, 0x00000003#32⟩
  | .unimpCustom0 => ⟨0x0000007F#32, 0x0000000B#32⟩
  | .unimpMiscMem => ⟨0x0000007F#32, 0x0000000F#32⟩
  | .unimpOpImm => ⟨0x0000007F#32, 0x00000013#32⟩
  | .unimpAuipc => ⟨0x0000007F#32, 0x00000017#32⟩
  | .unimpOpImm32 => ⟨0x0000007F#32, 0x0000001B#32⟩
  | .unimpStore => ⟨0x0000007F#32, 0x00000023#32⟩
  | .unimpCustom1 => ⟨0x0000007F#32, 0x0000002B#32⟩
  | .unimpOp => ⟨0x0000007F#32, 0x00000033#32⟩
  | .unimpLui => ⟨0x0000007F#32, 0x00000037#32⟩
  | .unimpOp32 => ⟨0x0000007F#32, 0x0000003B#32⟩
  | .unimpOpV => ⟨0x0000007F#32, 0x00000057#32⟩
  | .unimpCustom2 => ⟨0x0000007F#32, 0x0000005B#32⟩
  | .unimpBranch => ⟨0x0000007F#32, 0x00000063#32⟩
  | .unimpJalr => ⟨0x0000007F#32, 0x00000067#32⟩
  | .unimpReserved => ⟨0x0000007F#32, 0x0000006B#32⟩
  | .unimpJal => ⟨0x0000007F#32, 0x0000006F#32⟩
  | .unimpSystem => ⟨0x0000007F#32, 0x00000073#32⟩
  | .unimpOpP => ⟨0x0000007F#32, 0x00000077#32⟩
  | .unimpCustom3 => ⟨0x0000007F#32, 0x0000007B#32⟩

end Sys2Proof
end

