-- ==== Sys2Proof/Machine/Ops.lean ====
section
/-! DEFINITION. The operations every step is made of: instruction memory, the fetch that builds the input word, the
records of the two non-instruction outcomes, driving a record, and taking an exception. -/

namespace Sys2Proof.Machine

/-! ### Instruction memory -/

/-- The byte at an address, if there is one. -/
def readCell : Memory → Nat → Option Byte
  | [], _ => none
  | c :: rest, k => if c.1 = k then some c.2 else readCell rest k

/-- The byte at an address, if there is one. -/
def readByte (m : Memory) (a : Addr) : Option Byte := readCell m a.toNat

/-- A byte put at an address, the addresses kept rising. -/
def writeCell : Memory → Nat → Byte → Memory
  | [], k, b => [(k, b)]
  | c :: rest, k, b =>
    if k < c.1 then (k, b) :: c :: rest
    else if k = c.1 then (k, b) :: rest
    else c :: writeCell rest k b

/-- A byte put at an address. -/
def writeByte (m : Memory) (a : Addr) (b : Byte) : Memory := writeCell m a.toNat b

/-- The 16-bit parcel at an address, little-endian (R61). -/
def parcelAt (m : Memory) (a : Addr) : Option Parcel :=
  match readByte m a, readByte m (a + 1#64) with
  | some b0, some b1 => some (b1 ++ b0)
  | _, _ => none

/-- The four bytes of a word put at an address, little-endian (R61). -/
def storeWord (m : Memory) (a : Addr) (w : Word) : Memory :=
  writeByte (writeByte (writeByte (writeByte m a (w.extractLsb' 0 8)) (a + 1#64) (w.extractLsb' 8 8))
    (a + 2#64) (w.extractLsb' 16 8)) (a + 3#64) (w.extractLsb' 24 8)

/-! ### The caller's fetch -/

/-- Whether the first parcel says that four bytes are needed (R62): a standard word. -/
def needsFourBytes (lo : Parcel) : Bool :=
  decide (lo.extractLsb' 0 2 = 0b11#2) && decide (lo.extractLsb' 0 5 ≠ 0b11111#5)

/-- The word the caller presents from its pc (R61, R62). Where two bytes are enough and the next two do not exist, the
upper half is at any value (R352). Where the word cannot be had, no word is supplied (R326). -/
def fetch (s : State) : Except Fault Word :=
  if s.pc.extractLsb' 0 1 ≠ 0#1 then .error .fetchMisaligned
  else
    match parcelAt s.mem s.pc, parcelAt s.mem (s.pc + 2#64) with
    | none, _ => .error .fetchAccess
    | some lo, some hi => .ok (hi ++ lo)
    | some lo, none => if needsFourBytes lo then .error .fetchAccess else .ok (Config.upperHalf s.pc ++ lo)

/-- The word on the input port (R32). -/
def State.present (s : State) (w : Word) : State := { s with insn := w }

/-! ### The shared result paths -/

/-- `ILLEGAL(n)` (R128): every field but `opcode` and `length` is 0. -/
def illegalRecord (n : BitVec 3) : Record :=
  { opcode := .illegal, length := n, rd := 0#5, rs1 := 0#5, rs2 := 0#5, rs3 := 0#5, imm := 0#64, rm := 0#3 }

/-- `UNIMP(n)` (R129): every field but `opcode` and `length` is 0. -/
def unimpRecord (n : BitVec 3) : Record :=
  { opcode := .unimplemented, length := n, rd := 0#5, rs1 := 0#5, rs2 := 0#5, rs3 := 0#5, imm := 0#64, rm := 0#3 }

/-! ### Exceptions -/

/-- The RISC-V synchronous exception causes, for the caller (R324). The block raises none of them. -/
inductive Cause where
  | instructionAddressMisaligned
  | instructionAccessFault
  | illegalInstruction
  | breakpoint
  | loadAddressMisaligned
  | loadAccessFault
  | storeAmoAddressMisaligned
  | storeAmoAccessFault
  | ecallFromU
  | ecallFromS
  | ecallFromM
  | instructionPageFault
  | loadPageFault
  | storeAmoPageFault
  deriving DecidableEq, Repr

/-- The code of a cause (R324). -/
def Cause.code : Cause → BitVec 64
  | .instructionAddressMisaligned => 0#64
  | .instructionAccessFault => 1#64
  | .illegalInstruction => 2#64
  | .breakpoint => 3#64
  | .loadAddressMisaligned => 4#64
  | .loadAccessFault => 5#64
  | .storeAmoAddressMisaligned => 6#64
  | .storeAmoAccessFault => 7#64
  | .ecallFromU => 8#64
  | .ecallFromS => 9#64
  | .ecallFromM => 11#64
  | .instructionPageFault => 12#64
  | .loadPageFault => 13#64
  | .storeAmoPageFault => 15#64

/-- The base field of `mtvec`, bits 63:2. PRESUMED, unsafe (log entry 9): R327 says "mtvec's base" and gives no
layout. -/
def vectorBase (mtvec : BitVec 64) : Addr := mtvec &&& 0xFFFFFFFFFFFFFFFC#64

/-- Taking an exception: the machine-mode trap entry the caller performs (R327). It saves the pc of the trapping
instruction, the cause and the trap value, stacks the mode and the interrupt enable, and goes on at the vector base.
DEDUCED, unsafe (log entry 9): from every mode it writes the machine-mode registers and continues in machine mode. There is no return beside it: the block
decodes no return instruction, and no rule gives one a meaning (R328, R338). -/
def takeException (c : Cause) (tval : BitVec 64) (s : State) : State :=
  { s with
    mepc := s.pc
    mcause := c.code
    mtval := tval
    mstatus := { mie := false, mpie := s.mstatus.mie, mpp := s.mode }
    mode := .machine
    pc := vectorBase s.mtvec }

/-- The trap value of an illegal instruction (R322): the 32-bit word for `length` 4, else the zero-extended parcel.
PRESUMED, unsafe (log entry 15): R322 gives `mtval` no width and says of the parcel only that it is zero-extended; the
model has 64 bits and zero-extends the word too. -/
def trapValue (n : BitVec 3) (w : Word) : BitVec 64 :=
  if n = 4#3 then w.setWidth 64 else (w.setWidth 16 : Parcel).setWidth 64

/-! ### Driving a record -/

/-- The block drives a record, and the caller's next fetch address is the pc plus its `length` (R353). -/
def emit (r : Record) (s : State) : Host.Outcome State Fault Refusal :=
  .next { s with out := r, pc := s.pc + r.length.setWidth 64 }

/-- The block answers `ILLEGAL(n)`; the caller continues past it, or raises the illegal-instruction exception (R322). -/
def emitIllegal (n : BitVec 3) (s : State) : Host.Outcome State Fault Refusal :=
  match s.policy with
  | .continuePast => emit (illegalRecord n) s
  | .trapOrRefuse =>
    .next (takeException .illegalInstruction (trapValue n s.insn) { s with out := illegalRecord n })

/-- The block answers `UNIMP(n)`; the caller continues past it, or refuses (R323). -/
def emitUnimplemented (n : BitVec 3) (s : State) : Host.Outcome State Fault Refusal :=
  match s.policy with
  | .continuePast => emit (unimpRecord n) s
  | .trapOrRefuse => .refused .unimplementedRecord

end Sys2Proof.Machine
end

