-- ==== Sys2Proof/Machine/Operands.lean ====
section
/-! DEFINITION. The operand forms: which output fields each group of opcodes defines (spec 10_state.md R40). Every
other field is `dontCare` of the word and the field (R41), a free value. The word a form takes is the instruction's
own encoding, which holds exactly the bits the block may look at (20_memory.md R63). -/

namespace Sys2Proof.Machine

/-- An undefined register port (R41). -/
def undefReg (w : Word) (f : OutField) : Reg := (Config.dontCare w f).setWidth 5

/-- An undefined `rm` port (R41). -/
def undefRm (w : Word) : Rm := (Config.dontCare w .rm).setWidth 3

/-- An undefined `imm` port (R41). -/
def undefImm (w : Word) : Imm := Config.dontCare w .imm

/-- FLW and FLD, standard and compressed: `rd`, `rs1`, `imm`. -/
def loadRecord (w : Word) (op : Opcode) (n : BitVec 3) (rd rs1 : Reg) (imm : Imm) : Record :=
  { opcode := op, length := n, rd := rd, rs1 := rs1, rs2 := undefReg w .rs2, rs3 := undefReg w .rs3, imm := imm,
    rm := undefRm w }

/-- FSW and FSD, standard and compressed: `rs1`, `rs2`, `imm`. -/
def storeRecord (w : Word) (op : Opcode) (n : BitVec 3) (rs1 rs2 : Reg) (imm : Imm) : Record :=
  { opcode := op, length := n, rd := undefReg w .rd, rs1 := rs1, rs2 := rs2, rs3 := undefReg w .rs3, imm := imm,
    rm := undefRm w }

/-- The atomics: `rd`, `rs1`, `rs2` (0 for LR), and the ordering bits in `imm`. -/
def amoRecord (w : Word) (op : Opcode) (rd rs1 rs2 : Reg) (aqrl : AqRl) : Record :=
  { opcode := op, length := 4#3, rd := rd, rs1 := rs1, rs2 := rs2, rs3 := undefReg w .rs3, imm := orderingImm aqrl,
    rm := undefRm w }

/-- Fused multiply-add: `rd`, `rs1`, `rs2`, `rs3`, `rm`. -/
def fmaRecord (w : Word) (op : Opcode) (rd rs1 rs2 rs3 : Reg) (rm : Rm) : Record :=
  { opcode := op, length := 4#3, rd := rd, rs1 := rs1, rs2 := rs2, rs3 := rs3, imm := undefImm w, rm := rm }

/-- OP-FP: `rd`, `rs1`, `rs2`, `rm`, the selectors among them (R40). -/
def opFpRecord (w : Word) (op : Opcode) (rd rs1 rs2 : Reg) (rm : Rm) : Record :=
  { opcode := op, length := 4#3, rd := rd, rs1 := rs1, rs2 := rs2, rs3 := undefReg w .rs3, imm := undefImm w, rm := rm }

end Sys2Proof.Machine
end

