-- ==== Sys2Proof/Machine/Amo.lean ====
section
/-! DEFINITION. The atomics (spec 43_amo.md): registers and ordering bits carried verbatim (R180). LR has no `rs2`
operand, and its record defines the field as 0 (10_state.md R40). -/

namespace Sys2Proof.Machine

/-- LR.W (R181). -/
def execLrW (rd rs1 : Reg) (aqrl : AqRl) (s : State) : Host.Outcome State Fault Refusal :=
  emit (amoRecord (encode (.lrW rd rs1 aqrl)) .lr_w rd rs1 0#5 aqrl) s

/-- SC.W (R182). -/
def execScW (rd rs1 rs2 : Reg) (aqrl : AqRl) (s : State) : Host.Outcome State Fault Refusal :=
  emit (amoRecord (encode (.scW rd rs1 rs2 aqrl)) .sc_w rd rs1 rs2 aqrl) s

/-- AMOSWAP.W (R183). -/
def execAmoswapW (rd rs1 rs2 : Reg) (aqrl : AqRl) (s : State) : Host.Outcome State Fault Refusal :=
  emit (amoRecord (encode (.amoswapW rd rs1 rs2 aqrl)) .amoswap_w rd rs1 rs2 aqrl) s

/-- AMOADD.W (R184). -/
def execAmoaddW (rd rs1 rs2 : Reg) (aqrl : AqRl) (s : State) : Host.Outcome State Fault Refusal :=
  emit (amoRecord (encode (.amoaddW rd rs1 rs2 aqrl)) .amoadd_w rd rs1 rs2 aqrl) s

/-- AMOXOR.W (R185). -/
def execAmoxorW (rd rs1 rs2 : Reg) (aqrl : AqRl) (s : State) : Host.Outcome State Fault Refusal :=
  emit (amoRecord (encode (.amoxorW rd rs1 rs2 aqrl)) .amoxor_w rd rs1 rs2 aqrl) s

/-- AMOAND.W (R186). -/
def execAmoandW (rd rs1 rs2 : Reg) (aqrl : AqRl) (s : State) : Host.Outcome State Fault Refusal :=
  emit (amoRecord (encode (.amoandW rd rs1 rs2 aqrl)) .amoand_w rd rs1 rs2 aqrl) s

/-- AMOOR.W (R187). -/
def execAmoorW (rd rs1 rs2 : Reg) (aqrl : AqRl) (s : State) : Host.Outcome State Fault Refusal :=
  emit (amoRecord (encode (.amoorW rd rs1 rs2 aqrl)) .amoor_w rd rs1 rs2 aqrl) s

/-- AMOMIN.W (R188). -/
def execAmominW (rd rs1 rs2 : Reg) (aqrl : AqRl) (s : State) : Host.Outcome State Fault Refusal :=
  emit (amoRecord (encode (.amominW rd rs1 rs2 aqrl)) .amomin_w rd rs1 rs2 aqrl) s

/-- AMOMAX.W (R189). -/
def execAmomaxW (rd rs1 rs2 : Reg) (aqrl : AqRl) (s : State) : Host.Outcome State Fault Refusal :=
  emit (amoRecord (encode (.amomaxW rd rs1 rs2 aqrl)) .amomax_w rd rs1 rs2 aqrl) s

/-- AMOMINU.W (R190). -/
def execAmominuW (rd rs1 rs2 : Reg) (aqrl : AqRl) (s : State) : Host.Outcome State Fault Refusal :=
  emit (amoRecord (encode (.amominuW rd rs1 rs2 aqrl)) .amominu_w rd rs1 rs2 aqrl) s

/-- AMOMAXU.W (R191). -/
def execAmomaxuW (rd rs1 rs2 : Reg) (aqrl : AqRl) (s : State) : Host.Outcome State Fault Refusal :=
  emit (amoRecord (encode (.amomaxuW rd rs1 rs2 aqrl)) .amomaxu_w rd rs1 rs2 aqrl) s

/-- LR.D (R192). -/
def execLrD (rd rs1 : Reg) (aqrl : AqRl) (s : State) : Host.Outcome State Fault Refusal :=
  emit (amoRecord (encode (.lrD rd rs1 aqrl)) .lr_d rd rs1 0#5 aqrl) s

/-- SC.D (R193). -/
def execScD (rd rs1 rs2 : Reg) (aqrl : AqRl) (s : State) : Host.Outcome State Fault Refusal :=
  emit (amoRecord (encode (.scD rd rs1 rs2 aqrl)) .sc_d rd rs1 rs2 aqrl) s

/-- AMOSWAP.D (R194). -/
def execAmoswapD (rd rs1 rs2 : Reg) (aqrl : AqRl) (s : State) : Host.Outcome State Fault Refusal :=
  emit (amoRecord (encode (.amoswapD rd rs1 rs2 aqrl)) .amoswap_d rd rs1 rs2 aqrl) s

/-- AMOADD.D (R195). -/
def execAmoaddD (rd rs1 rs2 : Reg) (aqrl : AqRl) (s : State) : Host.Outcome State Fault Refusal :=
  emit (amoRecord (encode (.amoaddD rd rs1 rs2 aqrl)) .amoadd_d rd rs1 rs2 aqrl) s

/-- AMOXOR.D (R196). -/
def execAmoxorD (rd rs1 rs2 : Reg) (aqrl : AqRl) (s : State) : Host.Outcome State Fault Refusal :=
  emit (amoRecord (encode (.amoxorD rd rs1 rs2 aqrl)) .amoxor_d rd rs1 rs2 aqrl) s

/-- AMOAND.D (R197). -/
def execAmoandD (rd rs1 rs2 : Reg) (aqrl : AqRl) (s : State) : Host.Outcome State Fault Refusal :=
  emit (amoRecord (encode (.amoandD rd rs1 rs2 aqrl)) .amoand_d rd rs1 rs2 aqrl) s

/-- AMOOR.D (R198). -/
def execAmoorD (rd rs1 rs2 : Reg) (aqrl : AqRl) (s : State) : Host.Outcome State Fault Refusal :=
  emit (amoRecord (encode (.amoorD rd rs1 rs2 aqrl)) .amoor_d rd rs1 rs2 aqrl) s

/-- AMOMIN.D (R199). -/
def execAmominD (rd rs1 rs2 : Reg) (aqrl : AqRl) (s : State) : Host.Outcome State Fault Refusal :=
  emit (amoRecord (encode (.amominD rd rs1 rs2 aqrl)) .amomin_d rd rs1 rs2 aqrl) s

/-- AMOMAX.D (R200). -/
def execAmomaxD (rd rs1 rs2 : Reg) (aqrl : AqRl) (s : State) : Host.Outcome State Fault Refusal :=
  emit (amoRecord (encode (.amomaxD rd rs1 rs2 aqrl)) .amomax_d rd rs1 rs2 aqrl) s

/-- AMOMINU.D (R201). -/
def execAmominuD (rd rs1 rs2 : Reg) (aqrl : AqRl) (s : State) : Host.Outcome State Fault Refusal :=
  emit (amoRecord (encode (.amominuD rd rs1 rs2 aqrl)) .amominu_d rd rs1 rs2 aqrl) s

/-- AMOMAXU.D (R202). -/
def execAmomaxuD (rd rs1 rs2 : Reg) (aqrl : AqRl) (s : State) : Host.Outcome State Fault Refusal :=
  emit (amoRecord (encode (.amomaxuD rd rs1 rs2 aqrl)) .amomaxu_d rd rs1 rs2 aqrl) s

end Sys2Proof.Machine
end

