-- ==== Sys2Proof/Machine/CompressedDelegated.lean ====
section
/-! DEFINITION. The twenty delegated compressed pairs (spec 41_compressed_fp.md R145): the record is `UNIMP(2)`,
whatever the other bits of the parcel are. -/

namespace Sys2Proof.Machine

/-- The pair of C.ADDI4SPN (R145). -/
def execUnimpCAddi4spn (s : State) : Host.Outcome State Fault Refusal := emitUnimplemented 2#3 s

/-- The pair of C.LW (R145). -/
def execUnimpCLw (s : State) : Host.Outcome State Fault Refusal := emitUnimplemented 2#3 s

/-- The pair of C.LD (R145). -/
def execUnimpCLd (s : State) : Host.Outcome State Fault Refusal := emitUnimplemented 2#3 s

/-- The pair of reserved (R145). -/
def execUnimpCReserved (s : State) : Host.Outcome State Fault Refusal := emitUnimplemented 2#3 s

/-- The pair of C.SW (R145). -/
def execUnimpCSw (s : State) : Host.Outcome State Fault Refusal := emitUnimplemented 2#3 s

/-- The pair of C.SD (R145). -/
def execUnimpCSd (s : State) : Host.Outcome State Fault Refusal := emitUnimplemented 2#3 s

/-- The pair of C.NOP/C.ADDI (R145). -/
def execUnimpCNopAddi (s : State) : Host.Outcome State Fault Refusal := emitUnimplemented 2#3 s

/-- The pair of C.ADDIW (R145). -/
def execUnimpCAddiw (s : State) : Host.Outcome State Fault Refusal := emitUnimplemented 2#3 s

/-- The pair of C.LI (R145). -/
def execUnimpCLi (s : State) : Host.Outcome State Fault Refusal := emitUnimplemented 2#3 s

/-- The pair of C.LUI/C.ADDI16SP (R145). -/
def execUnimpCLuiAddi16sp (s : State) : Host.Outcome State Fault Refusal := emitUnimplemented 2#3 s

/-- The pair of C.MISC-ALU (R145). -/
def execUnimpCMiscAlu (s : State) : Host.Outcome State Fault Refusal := emitUnimplemented 2#3 s

/-- The pair of C.J (R145). -/
def execUnimpCJ (s : State) : Host.Outcome State Fault Refusal := emitUnimplemented 2#3 s

/-- The pair of C.BEQZ (R145). -/
def execUnimpCBeqz (s : State) : Host.Outcome State Fault Refusal := emitUnimplemented 2#3 s

/-- The pair of C.BNEZ (R145). -/
def execUnimpCBnez (s : State) : Host.Outcome State Fault Refusal := emitUnimplemented 2#3 s

/-- The pair of C.SLLI (R145). -/
def execUnimpCSlli (s : State) : Host.Outcome State Fault Refusal := emitUnimplemented 2#3 s

/-- The pair of C.LWSP (R145). -/
def execUnimpCLwsp (s : State) : Host.Outcome State Fault Refusal := emitUnimplemented 2#3 s

/-- The pair of C.LDSP (R145). -/
def execUnimpCLdsp (s : State) : Host.Outcome State Fault Refusal := emitUnimplemented 2#3 s

/-- The pair of C.JR/C.MV/C.EBREAK/C.JALR/C.ADD (R145). -/
def execUnimpCJrMvAdd (s : State) : Host.Outcome State Fault Refusal := emitUnimplemented 2#3 s

/-- The pair of C.SWSP (R145). -/
def execUnimpCSwsp (s : State) : Host.Outcome State Fault Refusal := emitUnimplemented 2#3 s

/-- The pair of C.SDSP (R145). -/
def execUnimpCSdsp (s : State) : Host.Outcome State Fault Refusal := emitUnimplemented 2#3 s

end Sys2Proof.Machine
end

