-- ==== Sys2Proof/Machine/CompressedFp.lean ====
section
/-! DEFINITION. The compressed double-precision FP loads and stores (spec 41_compressed_fp.md). Each yields the tag of
its 32-bit equivalent with `length` 2 (R14, R140); none has an illegal sub-case. The stack-pointer forms drive the
constant 2 on `rs1` (R143, R144). -/

namespace Sys2Proof.Machine

/-- C.FLD (R141). -/
def execCFld (rd rs1 : Reg) (imm : Imm) (s : State) : Host.Outcome State Fault Refusal :=
  emit (loadRecord (encode (.cFld rd rs1 imm)) .fld 2#3 rd rs1 imm) s

/-- C.FSD (R142). -/
def execCFsd (rs1 rs2 : Reg) (imm : Imm) (s : State) : Host.Outcome State Fault Refusal :=
  emit (storeRecord (encode (.cFsd rs1 rs2 imm)) .fsd 2#3 rs1 rs2 imm) s

/-- C.FLDSP (R143). -/
def execCFldsp (rd : Reg) (imm : Imm) (s : State) : Host.Outcome State Fault Refusal :=
  emit (loadRecord (encode (.cFldsp rd imm)) .fld 2#3 rd 2#5 imm) s

/-- C.FSDSP (R144). -/
def execCFsdsp (rs2 : Reg) (imm : Imm) (s : State) : Host.Outcome State Fault Refusal :=
  emit (storeRecord (encode (.cFsdsp rs2 imm)) .fsd 2#3 2#5 rs2 imm) s

end Sys2Proof.Machine
end

