-- ==== Sys2Proof/Machine/Delegated.lean ====
section
/-! DEFINITION. The twenty delegated major opcodes (spec 30_encoding.md R95): the record is `UNIMP(4)`
(40_decode_top.md R129). And the reserved long space: the record is `ILLEGAL(2)` (R124), whatever the bits above bit 4
are. -/

namespace Sys2Proof.Machine

/-- The reserved long encoding (R96, R124). -/
def execIllegalLong (s : State) : Host.Outcome State Fault Refusal := emitIllegal 2#3 s

/-- Major opcode LOAD (R95, R129). -/
def execUnimpLoad (s : State) : Host.Outcome State Fault Refusal := emitUnimplemented 4#3 s

/-- Major opcode custom-0 (R95, R129). -/
def execUnimpCustom0 (s : State) : Host.Outcome State Fault Refusal := emitUnimplemented 4#3 s

/-- Major opcode MISC-MEM (R95, R129). -/
def execUnimpMiscMem (s : State) : Host.Outcome State Fault Refusal := emitUnimplemented 4#3 s

/-- Major opcode OP-IMM (R95, R129). -/
def execUnimpOpImm (s : State) : Host.Outcome State Fault Refusal := emitUnimplemented 4#3 s

/-- Major opcode AUIPC (R95, R129). -/
def execUnimpAuipc (s : State) : Host.Outcome State Fault Refusal := emitUnimplemented 4#3 s

/-- Major opcode OP-IMM-32 (R95, R129). -/
def execUnimpOpImm32 (s : State) : Host.Outcome State Fault Refusal := emitUnimplemented 4#3 s

/-- Major opcode STORE (R95, R129). -/
def execUnimpStore (s : State) : Host.Outcome State Fault Refusal := emitUnimplemented 4#3 s

/-- Major opcode custom-1 (R95, R129). -/
def execUnimpCustom1 (s : State) : Host.Outcome State Fault Refusal := emitUnimplemented 4#3 s

/-- Major opcode OP (R95, R129). -/
def execUnimpOp (s : State) : Host.Outcome State Fault Refusal := emitUnimplemented 4#3 s

/-- Major opcode LUI (R95, R129). -/
def execUnimpLui (s : State) : Host.Outcome State Fault Refusal := emitUnimplemented 4#3 s

/-- Major opcode OP-32 (R95, R129). -/
def execUnimpOp32 (s : State) : Host.Outcome State Fault Refusal := emitUnimplemented 4#3 s

/-- Major opcode OP-V (R95, R129). -/
def execUnimpOpV (s : State) : Host.Outcome State Fault Refusal := emitUnimplemented 4#3 s

/-- Major opcode custom-2/rv128 (R95, R129). -/
def execUnimpCustom2 (s : State) : Host.Outcome State Fault Refusal := emitUnimplemented 4#3 s

/-- Major opcode BRANCH (R95, R129). -/
def execUnimpBranch (s : State) : Host.Outcome State Fault Refusal := emitUnimplemented 4#3 s

/-- Major opcode JALR (R95, R129). -/
def execUnimpJalr (s : State) : Host.Outcome State Fault Refusal := emitUnimplemented 4#3 s

/-- Major opcode reserved (R95, R129). -/
def execUnimpReserved (s : State) : Host.Outcome State Fault Refusal := emitUnimplemented 4#3 s

/-- Major opcode JAL (R95, R129). -/
def execUnimpJal (s : State) : Host.Outcome State Fault Refusal := emitUnimplemented 4#3 s

/-- Major opcode SYSTEM (R95, R129). -/
def execUnimpSystem (s : State) : Host.Outcome State Fault Refusal := emitUnimplemented 4#3 s

/-- Major opcode OP-P/reserved (R95, R129). -/
def execUnimpOpP (s : State) : Host.Outcome State Fault Refusal := emitUnimplemented 4#3 s

/-- Major opcode custom-3/rv128 (R95, R129). -/
def execUnimpCustom3 (s : State) : Host.Outcome State Fault Refusal := emitUnimplemented 4#3 s

end Sys2Proof.Machine
end

