-- ==== Sys2Proof/Machine/Fma.lean ====
section
/-! DEFINITION. The fused multiply-adds (spec 44_fma.md): four registers, and `funct3` copied into `rm` unmodified
(R220). -/

namespace Sys2Proof.Machine

/-- FMADD.S (R221). -/
def execFmaddS (rd rs1 rs2 rs3 : Reg) (rm : Rm) (s : State) : Host.Outcome State Fault Refusal :=
  emit (fmaRecord (encode (.fmaddS rd rs1 rs2 rs3 rm)) .fmadd_s rd rs1 rs2 rs3 rm) s

/-- FMSUB.S (R222). -/
def execFmsubS (rd rs1 rs2 rs3 : Reg) (rm : Rm) (s : State) : Host.Outcome State Fault Refusal :=
  emit (fmaRecord (encode (.fmsubS rd rs1 rs2 rs3 rm)) .fmsub_s rd rs1 rs2 rs3 rm) s

/-- FNMSUB.S (R223). -/
def execFnmsubS (rd rs1 rs2 rs3 : Reg) (rm : Rm) (s : State) : Host.Outcome State Fault Refusal :=
  emit (fmaRecord (encode (.fnmsubS rd rs1 rs2 rs3 rm)) .fnmsub_s rd rs1 rs2 rs3 rm) s

/-- FNMADD.S (R224). -/
def execFnmaddS (rd rs1 rs2 rs3 : Reg) (rm : Rm) (s : State) : Host.Outcome State Fault Refusal :=
  emit (fmaRecord (encode (.fnmaddS rd rs1 rs2 rs3 rm)) .fnmadd_s rd rs1 rs2 rs3 rm) s

/-- FMADD.D (R225). -/
def execFmaddD (rd rs1 rs2 rs3 : Reg) (rm : Rm) (s : State) : Host.Outcome State Fault Refusal :=
  emit (fmaRecord (encode (.fmaddD rd rs1 rs2 rs3 rm)) .fmadd_d rd rs1 rs2 rs3 rm) s

/-- FMSUB.D (R226). -/
def execFmsubD (rd rs1 rs2 rs3 : Reg) (rm : Rm) (s : State) : Host.Outcome State Fault Refusal :=
  emit (fmaRecord (encode (.fmsubD rd rs1 rs2 rs3 rm)) .fmsub_d rd rs1 rs2 rs3 rm) s

/-- FNMSUB.D (R227). -/
def execFnmsubD (rd rs1 rs2 rs3 : Reg) (rm : Rm) (s : State) : Host.Outcome State Fault Refusal :=
  emit (fmaRecord (encode (.fnmsubD rd rs1 rs2 rs3 rm)) .fnmsub_d rd rs1 rs2 rs3 rm) s

/-- FNMADD.D (R228). -/
def execFnmaddD (rd rs1 rs2 rs3 : Reg) (rm : Rm) (s : State) : Host.Outcome State Fault Refusal :=
  emit (fmaRecord (encode (.fnmaddD rd rs1 rs2 rs3 rm)) .fnmadd_d rd rs1 rs2 rs3 rm) s

end Sys2Proof.Machine
end

