-- ==== Sys2Proof/Machine/FpLoadStore.lean ====
section
/-! DEFINITION. The standard FP loads and stores (spec 42_fp_loadstore.md): the immediate is the sign-extended 12-bit
displacement (30_encoding.md R85, R86). -/

namespace Sys2Proof.Machine

/-- FLW (R161). -/
def execFlw (rd rs1 : Reg) (imm : Imm) (s : State) : Host.Outcome State Fault Refusal :=
  emit (loadRecord (encode (.flw rd rs1 imm)) .flw 4#3 rd rs1 imm) s

/-- FLD (R162). -/
def execFld (rd rs1 : Reg) (imm : Imm) (s : State) : Host.Outcome State Fault Refusal :=
  emit (loadRecord (encode (.fld rd rs1 imm)) .fld 4#3 rd rs1 imm) s

/-- FSW (R164). -/
def execFsw (rs1 rs2 : Reg) (imm : Imm) (s : State) : Host.Outcome State Fault Refusal :=
  emit (storeRecord (encode (.fsw rs1 rs2 imm)) .fsw 4#3 rs1 rs2 imm) s

/-- FSD (R165). -/
def execFsd (rs1 rs2 : Reg) (imm : Imm) (s : State) : Host.Outcome State Fault Refusal :=
  emit (storeRecord (encode (.fsd rs1 rs2 imm)) .fsd 4#3 rs1 rs2 imm) s

end Sys2Proof.Machine
end

