-- ==== Sys2Proof/Machine/OpFpDouble.lean ====
section
/-! DEFINITION. OP-FP, double precision (spec 46_op_fp_double.md). Where `rs2` or `funct3` is a selector, the record
still carries it: the field equals the value the selector fixes (10_state.md R40; 90_conflicts.md C13). -/

namespace Sys2Proof.Machine

/-- FADD.D (R281). -/
def execFaddD (rd rs1 rs2 : Reg) (rm : Rm) (s : State) : Host.Outcome State Fault Refusal :=
  emit (opFpRecord (encode (.faddD rd rs1 rs2 rm)) .fadd_d rd rs1 rs2 rm) s

/-- FSUB.D (R282). -/
def execFsubD (rd rs1 rs2 : Reg) (rm : Rm) (s : State) : Host.Outcome State Fault Refusal :=
  emit (opFpRecord (encode (.fsubD rd rs1 rs2 rm)) .fsub_d rd rs1 rs2 rm) s

/-- FMUL.D (R283). -/
def execFmulD (rd rs1 rs2 : Reg) (rm : Rm) (s : State) : Host.Outcome State Fault Refusal :=
  emit (opFpRecord (encode (.fmulD rd rs1 rs2 rm)) .fmul_d rd rs1 rs2 rm) s

/-- FDIV.D (R284). -/
def execFdivD (rd rs1 rs2 : Reg) (rm : Rm) (s : State) : Host.Outcome State Fault Refusal :=
  emit (opFpRecord (encode (.fdivD rd rs1 rs2 rm)) .fdiv_d rd rs1 rs2 rm) s

/-- FSQRT.D (R285). -/
def execFsqrtD (rd rs1 : Reg) (rm : Rm) (s : State) : Host.Outcome State Fault Refusal :=
  emit (opFpRecord (encode (.fsqrtD rd rs1 rm)) .fsqrt_d rd rs1 0b00000#5 rm) s

/-- FSGNJ.D (R286). -/
def execFsgnjD (rd rs1 rs2 : Reg) (s : State) : Host.Outcome State Fault Refusal :=
  emit (opFpRecord (encode (.fsgnjD rd rs1 rs2)) .fsgnj_d rd rs1 rs2 0b000#3) s

/-- FSGNJN.D (R287). -/
def execFsgnjnD (rd rs1 rs2 : Reg) (s : State) : Host.Outcome State Fault Refusal :=
  emit (opFpRecord (encode (.fsgnjnD rd rs1 rs2)) .fsgnjn_d rd rs1 rs2 0b001#3) s

/-- FSGNJX.D (R288). -/
def execFsgnjxD (rd rs1 rs2 : Reg) (s : State) : Host.Outcome State Fault Refusal :=
  emit (opFpRecord (encode (.fsgnjxD rd rs1 rs2)) .fsgnjx_d rd rs1 rs2 0b010#3) s

/-- FMIN.D (R289). -/
def execFminD (rd rs1 rs2 : Reg) (s : State) : Host.Outcome State Fault Refusal :=
  emit (opFpRecord (encode (.fminD rd rs1 rs2)) .fmin_d rd rs1 rs2 0b000#3) s

/-- FMAX.D (R290). -/
def execFmaxD (rd rs1 rs2 : Reg) (s : State) : Host.Outcome State Fault Refusal :=
  emit (opFpRecord (encode (.fmaxD rd rs1 rs2)) .fmax_d rd rs1 rs2 0b001#3) s

/-- FCVT.W.D (R291). -/
def execFcvtWD (rd rs1 : Reg) (rm : Rm) (s : State) : Host.Outcome State Fault Refusal :=
  emit (opFpRecord (encode (.fcvtWD rd rs1 rm)) .fcvt_w_d rd rs1 0b00000#5 rm) s

/-- FCVT.WU.D (R292). -/
def execFcvtWuD (rd rs1 : Reg) (rm : Rm) (s : State) : Host.Outcome State Fault Refusal :=
  emit (opFpRecord (encode (.fcvtWuD rd rs1 rm)) .fcvt_wu_d rd rs1 0b00001#5 rm) s

/-- FCVT.L.D (R293). -/
def execFcvtLD (rd rs1 : Reg) (rm : Rm) (s : State) : Host.Outcome State Fault Refusal :=
  emit (opFpRecord (encode (.fcvtLD rd rs1 rm)) .fcvt_l_d rd rs1 0b00010#5 rm) s

/-- FCVT.LU.D (R294). -/
def execFcvtLuD (rd rs1 : Reg) (rm : Rm) (s : State) : Host.Outcome State Fault Refusal :=
  emit (opFpRecord (encode (.fcvtLuD rd rs1 rm)) .fcvt_lu_d rd rs1 0b00011#5 rm) s

/-- FMV.X.D (R295). -/
def execFmvXD (rd rs1 : Reg) (s : State) : Host.Outcome State Fault Refusal :=
  emit (opFpRecord (encode (.fmvXD rd rs1)) .fmv_x_d rd rs1 0b00000#5 0b000#3) s

/-- FCLASS.D (R296). -/
def execFclassD (rd rs1 : Reg) (s : State) : Host.Outcome State Fault Refusal :=
  emit (opFpRecord (encode (.fclassD rd rs1)) .fclass_d rd rs1 0b00000#5 0b001#3) s

/-- FEQ.D (R297). -/
def execFeqD (rd rs1 rs2 : Reg) (s : State) : Host.Outcome State Fault Refusal :=
  emit (opFpRecord (encode (.feqD rd rs1 rs2)) .feq_d rd rs1 rs2 0b010#3) s

/-- FLT.D (R298). -/
def execFltD (rd rs1 rs2 : Reg) (s : State) : Host.Outcome State Fault Refusal :=
  emit (opFpRecord (encode (.fltD rd rs1 rs2)) .flt_d rd rs1 rs2 0b001#3) s

/-- FLE.D (R299). -/
def execFleD (rd rs1 rs2 : Reg) (s : State) : Host.Outcome State Fault Refusal :=
  emit (opFpRecord (encode (.fleD rd rs1 rs2)) .fle_d rd rs1 rs2 0b000#3) s

/-- FCVT.D.W (R300). -/
def execFcvtDW (rd rs1 : Reg) (rm : Rm) (s : State) : Host.Outcome State Fault Refusal :=
  emit (opFpRecord (encode (.fcvtDW rd rs1 rm)) .fcvt_d_w rd rs1 0b00000#5 rm) s

/-- FCVT.D.WU (R301). -/
def execFcvtDWu (rd rs1 : Reg) (rm : Rm) (s : State) : Host.Outcome State Fault Refusal :=
  emit (opFpRecord (encode (.fcvtDWu rd rs1 rm)) .fcvt_d_wu rd rs1 0b00001#5 rm) s

/-- FCVT.D.L (R302). -/
def execFcvtDL (rd rs1 : Reg) (rm : Rm) (s : State) : Host.Outcome State Fault Refusal :=
  emit (opFpRecord (encode (.fcvtDL rd rs1 rm)) .fcvt_d_l rd rs1 0b00010#5 rm) s

/-- FCVT.D.LU (R303). -/
def execFcvtDLu (rd rs1 : Reg) (rm : Rm) (s : State) : Host.Outcome State Fault Refusal :=
  emit (opFpRecord (encode (.fcvtDLu rd rs1 rm)) .fcvt_d_lu rd rs1 0b00011#5 rm) s

/-- FMV.D.X (R304). -/
def execFmvDX (rd rs1 : Reg) (s : State) : Host.Outcome State Fault Refusal :=
  emit (opFpRecord (encode (.fmvDX rd rs1)) .fmv_d_x rd rs1 0b00000#5 0b000#3) s

/-- FCVT.D.S (R305). -/
def execFcvtDS (rd rs1 : Reg) (rm : Rm) (s : State) : Host.Outcome State Fault Refusal :=
  emit (opFpRecord (encode (.fcvtDS rd rs1 rm)) .fcvt_d_s rd rs1 0b00000#5 rm) s

end Sys2Proof.Machine
end

