-- ==== Sys2Proof/Machine/OpFpSingle.lean ====
section
/-! DEFINITION. OP-FP, single precision (spec 45_op_fp_single.md). Where `rs2` or `funct3` is a selector, the record
still carries it: the field equals the value the selector fixes (10_state.md R40; 90_conflicts.md C13). -/

namespace Sys2Proof.Machine

/-- FADD.S (R241). -/
def execFaddS (rd rs1 rs2 : Reg) (rm : Rm) (s : State) : Host.Outcome State Fault Refusal :=
  emit (opFpRecord (encode (.faddS rd rs1 rs2 rm)) .fadd_s rd rs1 rs2 rm) s

/-- FSUB.S (R242). -/
def execFsubS (rd rs1 rs2 : Reg) (rm : Rm) (s : State) : Host.Outcome State Fault Refusal :=
  emit (opFpRecord (encode (.fsubS rd rs1 rs2 rm)) .fsub_s rd rs1 rs2 rm) s

/-- FMUL.S (R243). -/
def execFmulS (rd rs1 rs2 : Reg) (rm : Rm) (s : State) : Host.Outcome State Fault Refusal :=
  emit (opFpRecord (encode (.fmulS rd rs1 rs2 rm)) .fmul_s rd rs1 rs2 rm) s

/-- FDIV.S (R244). -/
def execFdivS (rd rs1 rs2 : Reg) (rm : Rm) (s : State) : Host.Outcome State Fault Refusal :=
  emit (opFpRecord (encode (.fdivS rd rs1 rs2 rm)) .fdiv_s rd rs1 rs2 rm) s

/-- FSQRT.S (R245). -/
def execFsqrtS (rd rs1 : Reg) (rm : Rm) (s : State) : Host.Outcome State Fault Refusal :=
  emit (opFpRecord (encode (.fsqrtS rd rs1 rm)) .fsqrt_s rd rs1 0b00000#5 rm) s

/-- FSGNJ.S (R246). -/
def execFsgnjS (rd rs1 rs2 : Reg) (s : State) : Host.Outcome State Fault Refusal :=
  emit (opFpRecord (encode (.fsgnjS rd rs1 rs2)) .fsgnj_s rd rs1 rs2 0b000#3) s

/-- FSGNJN.S (R247). -/
def execFsgnjnS (rd rs1 rs2 : Reg) (s : State) : Host.Outcome State Fault Refusal :=
  emit (opFpRecord (encode (.fsgnjnS rd rs1 rs2)) .fsgnjn_s rd rs1 rs2 0b001#3) s

/-- FSGNJX.S (R248). -/
def execFsgnjxS (rd rs1 rs2 : Reg) (s : State) : Host.Outcome State Fault Refusal :=
  emit (opFpRecord (encode (.fsgnjxS rd rs1 rs2)) .fsgnjx_s rd rs1 rs2 0b010#3) s

/-- FMIN.S (R249). -/
def execFminS (rd rs1 rs2 : Reg) (s : State) : Host.Outcome State Fault Refusal :=
  emit (opFpRecord (encode (.fminS rd rs1 rs2)) .fmin_s rd rs1 rs2 0b000#3) s

/-- FMAX.S (R250). -/
def execFmaxS (rd rs1 rs2 : Reg) (s : State) : Host.Outcome State Fault Refusal :=
  emit (opFpRecord (encode (.fmaxS rd rs1 rs2)) .fmax_s rd rs1 rs2 0b001#3) s

/-- FCVT.W.S (R251). -/
def execFcvtWS (rd rs1 : Reg) (rm : Rm) (s : State) : Host.Outcome State Fault Refusal :=
  emit (opFpRecord (encode (.fcvtWS rd rs1 rm)) .fcvt_w_s rd rs1 0b00000#5 rm) s

/-- FCVT.WU.S (R252). -/
def execFcvtWuS (rd rs1 : Reg) (rm : Rm) (s : State) : Host.Outcome State Fault Refusal :=
  emit (opFpRecord (encode (.fcvtWuS rd rs1 rm)) .fcvt_wu_s rd rs1 0b00001#5 rm) s

/-- FCVT.L.S (R253). -/
def execFcvtLS (rd rs1 : Reg) (rm : Rm) (s : State) : Host.Outcome State Fault Refusal :=
  emit (opFpRecord (encode (.fcvtLS rd rs1 rm)) .fcvt_l_s rd rs1 0b00010#5 rm) s

/-- FCVT.LU.S (R254). -/
def execFcvtLuS (rd rs1 : Reg) (rm : Rm) (s : State) : Host.Outcome State Fault Refusal :=
  emit (opFpRecord (encode (.fcvtLuS rd rs1 rm)) .fcvt_lu_s rd rs1 0b00011#5 rm) s

/-- FMV.X.W (R255). -/
def execFmvXW (rd rs1 : Reg) (s : State) : Host.Outcome State Fault Refusal :=
  emit (opFpRecord (encode (.fmvXW rd rs1)) .fmv_x_w rd rs1 0b00000#5 0b000#3) s

/-- FCLASS.S (R256). -/
def execFclassS (rd rs1 : Reg) (s : State) : Host.Outcome State Fault Refusal :=
  emit (opFpRecord (encode (.fclassS rd rs1)) .fclass_s rd rs1 0b00000#5 0b001#3) s

/-- FEQ.S (R257). -/
def execFeqS (rd rs1 rs2 : Reg) (s : State) : Host.Outcome State Fault Refusal :=
  emit (opFpRecord (encode (.feqS rd rs1 rs2)) .feq_s rd rs1 rs2 0b010#3) s

/-- FLT.S (R258). -/
def execFltS (rd rs1 rs2 : Reg) (s : State) : Host.Outcome State Fault Refusal :=
  emit (opFpRecord (encode (.fltS rd rs1 rs2)) .flt_s rd rs1 rs2 0b001#3) s

/-- FLE.S (R259). -/
def execFleS (rd rs1 rs2 : Reg) (s : State) : Host.Outcome State Fault Refusal :=
  emit (opFpRecord (encode (.fleS rd rs1 rs2)) .fle_s rd rs1 rs2 0b000#3) s

/-- FCVT.S.W (R260). -/
def execFcvtSW (rd rs1 : Reg) (rm : Rm) (s : State) : Host.Outcome State Fault Refusal :=
  emit (opFpRecord (encode (.fcvtSW rd rs1 rm)) .fcvt_s_w rd rs1 0b00000#5 rm) s

/-- FCVT.S.WU (R261). -/
def execFcvtSWu (rd rs1 : Reg) (rm : Rm) (s : State) : Host.Outcome State Fault Refusal :=
  emit (opFpRecord (encode (.fcvtSWu rd rs1 rm)) .fcvt_s_wu rd rs1 0b00001#5 rm) s

/-- FCVT.S.L (R262). -/
def execFcvtSL (rd rs1 : Reg) (rm : Rm) (s : State) : Host.Outcome State Fault Refusal :=
  emit (opFpRecord (encode (.fcvtSL rd rs1 rm)) .fcvt_s_l rd rs1 0b00010#5 rm) s

/-- FCVT.S.LU (R263). -/
def execFcvtSLu (rd rs1 : Reg) (rm : Rm) (s : State) : Host.Outcome State Fault Refusal :=
  emit (opFpRecord (encode (.fcvtSLu rd rs1 rm)) .fcvt_s_lu rd rs1 0b00011#5 rm) s

/-- FMV.W.X (R264). -/
def execFmvWX (rd rs1 : Reg) (s : State) : Host.Outcome State Fault Refusal :=
  emit (opFpRecord (encode (.fmvWX rd rs1)) .fmv_w_x rd rs1 0b00000#5 0b000#3) s

/-- FCVT.S.D (R265). -/
def execFcvtSD (rd rs1 : Reg) (rm : Rm) (s : State) : Host.Outcome State Fault Refusal :=
  emit (opFpRecord (encode (.fcvtSD rd rs1 rm)) .fcvt_s_d rd rs1 0b00001#5 rm) s

end Sys2Proof.Machine
end

