-- ==== Sys2Proof/Machine/Dispatch.lean ====
section
/-! DEFINITION. One arm per constructor of Instr, each one direct call of its meaning. -/

namespace Sys2Proof.Machine

def exec (i : Instr) (s : State) : Host.Outcome State Fault Refusal :=
  match i with
  | .cFld rd rs1 imm => Sys2Proof.Machine.execCFld rd rs1 imm s
  | .cFsd rs1 rs2 imm => Sys2Proof.Machine.execCFsd rs1 rs2 imm s
  | .cFldsp rd imm => Sys2Proof.Machine.execCFldsp rd imm s
  | .cFsdsp rs2 imm => Sys2Proof.Machine.execCFsdsp rs2 imm s
  | .unimpCAddi4spn => Sys2Proof.Machine.execUnimpCAddi4spn s
  | .unimpCLw => Sys2Proof.Machine.execUnimpCLw s
  | .unimpCLd => Sys2Proof.Machine.execUnimpCLd s
  | .unimpCReserved => Sys2Proof.Machine.execUnimpCReserved s
  | .unimpCSw => Sys2Proof.Machine.execUnimpCSw s
  | .unimpCSd => Sys2Proof.Machine.execUnimpCSd s
  | .unimpCNopAddi => Sys2Proof.Machine.execUnimpCNopAddi s
  | .unimpCAddiw => Sys2Proof.Machine.execUnimpCAddiw s
  | .unimpCLi => Sys2Proof.Machine.execUnimpCLi s
  | .unimpCLuiAddi16sp => Sys2Proof.Machine.execUnimpCLuiAddi16sp s
  | .unimpCMiscAlu => Sys2Proof.Machine.execUnimpCMiscAlu s
  | .unimpCJ => Sys2Proof.Machine.execUnimpCJ s
  | .unimpCBeqz => Sys2Proof.Machine.execUnimpCBeqz s
  | .unimpCBnez => Sys2Proof.Machine.execUnimpCBnez s
  | .unimpCSlli => Sys2Proof.Machine.execUnimpCSlli s
  | .unimpCLwsp => Sys2Proof.Machine.execUnimpCLwsp s
  | .unimpCLdsp => Sys2Proof.Machine.execUnimpCLdsp s
  | .unimpCJrMvAdd => Sys2Proof.Machine.execUnimpCJrMvAdd s
  | .unimpCSwsp => Sys2Proof.Machine.execUnimpCSwsp s
  | .unimpCSdsp => Sys2Proof.Machine.execUnimpCSdsp s
  | .illegalLong => Sys2Proof.Machine.execIllegalLong s
  | .flw rd rs1 imm => Sys2Proof.Machine.execFlw rd rs1 imm s
  | .fld rd rs1 imm => Sys2Proof.Machine.execFld rd rs1 imm s
  | .fsw rs1 rs2 imm => Sys2Proof.Machine.execFsw rs1 rs2 imm s
  | .fsd rs1 rs2 imm => Sys2Proof.Machine.execFsd rs1 rs2 imm s
  | .lrW rd rs1 aqrl => Sys2Proof.Machine.execLrW rd rs1 aqrl s
  | .scW rd rs1 rs2 aqrl => Sys2Proof.Machine.execScW rd rs1 rs2 aqrl s
  | .amoswapW rd rs1 rs2 aqrl => Sys2Proof.Machine.execAmoswapW rd rs1 rs2 aqrl s
  | .amoaddW rd rs1 rs2 aqrl => Sys2Proof.Machine.execAmoaddW rd rs1 rs2 aqrl s
  | .amoxorW rd rs1 rs2 aqrl => Sys2Proof.Machine.execAmoxorW rd rs1 rs2 aqrl s
  | .amoandW rd rs1 rs2 aqrl => Sys2Proof.Machine.execAmoandW rd rs1 rs2 aqrl s
  | .amoorW rd rs1 rs2 aqrl => Sys2Proof.Machine.execAmoorW rd rs1 rs2 aqrl s
  | .amominW rd rs1 rs2 aqrl => Sys2Proof.Machine.execAmominW rd rs1 rs2 aqrl s
  | .amomaxW rd rs1 rs2 aqrl => Sys2Proof.Machine.execAmomaxW rd rs1 rs2 aqrl s
  | .amominuW rd rs1 rs2 aqrl => Sys2Proof.Machine.execAmominuW rd rs1 rs2 aqrl s
  | .amomaxuW rd rs1 rs2 aqrl => Sys2Proof.Machine.execAmomaxuW rd rs1 rs2 aqrl s
  | .lrD rd rs1 aqrl => Sys2Proof.Machine.execLrD rd rs1 aqrl s
  | .scD rd rs1 rs2 aqrl => Sys2Proof.Machine.execScD rd rs1 rs2 aqrl s
  | .amoswapD rd rs1 rs2 aqrl => Sys2Proof.Machine.execAmoswapD rd rs1 rs2 aqrl s
  | .amoaddD rd rs1 rs2 aqrl => Sys2Proof.Machine.execAmoaddD rd rs1 rs2 aqrl s
  | .amoxorD rd rs1 rs2 aqrl => Sys2Proof.Machine.execAmoxorD rd rs1 rs2 aqrl s
  | .amoandD rd rs1 rs2 aqrl => Sys2Proof.Machine.execAmoandD rd rs1 rs2 aqrl s
  | .amoorD rd rs1 rs2 aqrl => Sys2Proof.Machine.execAmoorD rd rs1 rs2 aqrl s
  | .amominD rd rs1 rs2 aqrl => Sys2Proof.Machine.execAmominD rd rs1 rs2 aqrl s
  | .amomaxD rd rs1 rs2 aqrl => Sys2Proof.Machine.execAmomaxD rd rs1 rs2 aqrl s
  | .amominuD rd rs1 rs2 aqrl => Sys2Proof.Machine.execAmominuD rd rs1 rs2 aqrl s
  | .amomaxuD rd rs1 rs2 aqrl => Sys2Proof.Machine.execAmomaxuD rd rs1 rs2 aqrl s
  | .fmaddS rd rs1 rs2 rs3 rm => Sys2Proof.Machine.execFmaddS rd rs1 rs2 rs3 rm s
  | .fmsubS rd rs1 rs2 rs3 rm => Sys2Proof.Machine.execFmsubS rd rs1 rs2 rs3 rm s
  | .fnmsubS rd rs1 rs2 rs3 rm => Sys2Proof.Machine.execFnmsubS rd rs1 rs2 rs3 rm s
  | .fnmaddS rd rs1 rs2 rs3 rm => Sys2Proof.Machine.execFnmaddS rd rs1 rs2 rs3 rm s
  | .fmaddD rd rs1 rs2 rs3 rm => Sys2Proof.Machine.execFmaddD rd rs1 rs2 rs3 rm s
  | .fmsubD rd rs1 rs2 rs3 rm => Sys2Proof.Machine.execFmsubD rd rs1 rs2 rs3 rm s
  | .fnmsubD rd rs1 rs2 rs3 rm => Sys2Proof.Machine.execFnmsubD rd rs1 rs2 rs3 rm s
  | .fnmaddD rd rs1 rs2 rs3 rm => Sys2Proof.Machine.execFnmaddD rd rs1 rs2 rs3 rm s
  | .faddS rd rs1 rs2 rm => Sys2Proof.Machine.execFaddS rd rs1 rs2 rm s
  | .fsubS rd rs1 rs2 rm => Sys2Proof.Machine.execFsubS rd rs1 rs2 rm s
  | .fmulS rd rs1 rs2 rm => Sys2Proof.Machine.execFmulS rd rs1 rs2 rm s
  | .fdivS rd rs1 rs2 rm => Sys2Proof.Machine.execFdivS rd rs1 rs2 rm s
  | .fsqrtS rd rs1 rm => Sys2Proof.Machine.execFsqrtS rd rs1 rm s
  | .fsgnjS rd rs1 rs2 => Sys2Proof.Machine.execFsgnjS rd rs1 rs2 s
  | .fsgnjnS rd rs1 rs2 => Sys2Proof.Machine.execFsgnjnS rd rs1 rs2 s
  | .fsgnjxS rd rs1 rs2 => Sys2Proof.Machine.execFsgnjxS rd rs1 rs2 s
  | .fminS rd rs1 rs2 => Sys2Proof.Machine.execFminS rd rs1 rs2 s
  | .fmaxS rd rs1 rs2 => Sys2Proof.Machine.execFmaxS rd rs1 rs2 s
  | .fcvtWS rd rs1 rm => Sys2Proof.Machine.execFcvtWS rd rs1 rm s
  | .fcvtWuS rd rs1 rm => Sys2Proof.Machine.execFcvtWuS rd rs1 rm s
  | .fcvtLS rd rs1 rm => Sys2Proof.Machine.execFcvtLS rd rs1 rm s
  | .fcvtLuS rd rs1 rm => Sys2Proof.Machine.execFcvtLuS rd rs1 rm s
  | .fmvXW rd rs1 => Sys2Proof.Machine.execFmvXW rd rs1 s
  | .fclassS rd rs1 => Sys2Proof.Machine.execFclassS rd rs1 s
  | .feqS rd rs1 rs2 => Sys2Proof.Machine.execFeqS rd rs1 rs2 s
  | .fltS rd rs1 rs2 => Sys2Proof.Machine.execFltS rd rs1 rs2 s
  | .fleS rd rs1 rs2 => Sys2Proof.Machine.execFleS rd rs1 rs2 s
  | .fcvtSW rd rs1 rm => Sys2Proof.Machine.execFcvtSW rd rs1 rm s
  | .fcvtSWu rd rs1 rm => Sys2Proof.Machine.execFcvtSWu rd rs1 rm s
  | .fcvtSL rd rs1 rm => Sys2Proof.Machine.execFcvtSL rd rs1 rm s
  | .fcvtSLu rd rs1 rm => Sys2Proof.Machine.execFcvtSLu rd rs1 rm s
  | .fmvWX rd rs1 => Sys2Proof.Machine.execFmvWX rd rs1 s
  | .fcvtSD rd rs1 rm => Sys2Proof.Machine.execFcvtSD rd rs1 rm s
  | .faddD rd rs1 rs2 rm => Sys2Proof.Machine.execFaddD rd rs1 rs2 rm s
  | .fsubD rd rs1 rs2 rm => Sys2Proof.Machine.execFsubD rd rs1 rs2 rm s
  | .fmulD rd rs1 rs2 rm => Sys2Proof.Machine.execFmulD rd rs1 rs2 rm s
  | .fdivD rd rs1 rs2 rm => Sys2Proof.Machine.execFdivD rd rs1 rs2 rm s
  | .fsqrtD rd rs1 rm => Sys2Proof.Machine.execFsqrtD rd rs1 rm s
  | .fsgnjD rd rs1 rs2 => Sys2Proof.Machine.execFsgnjD rd rs1 rs2 s
  | .fsgnjnD rd rs1 rs2 => Sys2Proof.Machine.execFsgnjnD rd rs1 rs2 s
  | .fsgnjxD rd rs1 rs2 => Sys2Proof.Machine.execFsgnjxD rd rs1 rs2 s
  | .fminD rd rs1 rs2 => Sys2Proof.Machine.execFminD rd rs1 rs2 s
  | .fmaxD rd rs1 rs2 => Sys2Proof.Machine.execFmaxD rd rs1 rs2 s
  | .fcvtWD rd rs1 rm => Sys2Proof.Machine.execFcvtWD rd rs1 rm s
  | .fcvtWuD rd rs1 rm => Sys2Proof.Machine.execFcvtWuD rd rs1 rm s
  | .fcvtLD rd rs1 rm => Sys2Proof.Machine.execFcvtLD rd rs1 rm s
  | .fcvtLuD rd rs1 rm => Sys2Proof.Machine.execFcvtLuD rd rs1 rm s
  | .fmvXD rd rs1 => Sys2Proof.Machine.execFmvXD rd rs1 s
  | .fclassD rd rs1 => Sys2Proof.Machine.execFclassD rd rs1 s
  | .feqD rd rs1 rs2 => Sys2Proof.Machine.execFeqD rd rs1 rs2 s
  | .fltD rd rs1 rs2 => Sys2Proof.Machine.execFltD rd rs1 rs2 s
  | .fleD rd rs1 rs2 => Sys2Proof.Machine.execFleD rd rs1 rs2 s
  | .fcvtDW rd rs1 rm => Sys2Proof.Machine.execFcvtDW rd rs1 rm s
  | .fcvtDWu rd rs1 rm => Sys2Proof.Machine.execFcvtDWu rd rs1 rm s
  | .fcvtDL rd rs1 rm => Sys2Proof.Machine.execFcvtDL rd rs1 rm s
  | .fcvtDLu rd rs1 rm => Sys2Proof.Machine.execFcvtDLu rd rs1 rm s
  | .fmvDX rd rs1 => Sys2Proof.Machine.execFmvDX rd rs1 s
  | .fcvtDS rd rs1 rm => Sys2Proof.Machine.execFcvtDS rd rs1 rm s
  | .unimpLoad => Sys2Proof.Machine.execUnimpLoad s
  | .unimpCustom0 => Sys2Proof.Machine.execUnimpCustom0 s
  | .unimpMiscMem => Sys2Proof.Machine.execUnimpMiscMem s
  | .unimpOpImm => Sys2Proof.Machine.execUnimpOpImm s
  | .unimpAuipc => Sys2Proof.Machine.execUnimpAuipc s
  | .unimpOpImm32 => Sys2Proof.Machine.execUnimpOpImm32 s
  | .unimpStore => Sys2Proof.Machine.execUnimpStore s
  | .unimpCustom1 => Sys2Proof.Machine.execUnimpCustom1 s
  | .unimpOp => Sys2Proof.Machine.execUnimpOp s
  | .unimpLui => Sys2Proof.Machine.execUnimpLui s
  | .unimpOp32 => Sys2Proof.Machine.execUnimpOp32 s
  | .unimpOpV => Sys2Proof.Machine.execUnimpOpV s
  | .unimpCustom2 => Sys2Proof.Machine.execUnimpCustom2 s
  | .unimpBranch => Sys2Proof.Machine.execUnimpBranch s
  | .unimpJalr => Sys2Proof.Machine.execUnimpJalr s
  | .unimpReserved => Sys2Proof.Machine.execUnimpReserved s
  | .unimpJal => Sys2Proof.Machine.execUnimpJal s
  | .unimpSystem => Sys2Proof.Machine.execUnimpSystem s
  | .unimpOpP => Sys2Proof.Machine.execUnimpOpP s
  | .unimpCustom3 => Sys2Proof.Machine.execUnimpCustom3 s

end Sys2Proof.Machine
end

