-- ==== Sys2Proof/Machine/Block.lean ====
section
/-! DEFINITION. The block as one function of the word presented (spec 40_decode_top.md R135; 10_state.md R30): a row's
instruction is run by exec, and a word of a decoded major opcode that matches no row is answered on the shared illegal
path with length 4 (R128). -/

namespace Sys2Proof.Machine

/-- A word is presented on the input port and evaluated. -/
def runWord (w : Word) (s : State) : Host.Outcome State Fault Refusal :=
  match decode w with
  | .instr i => exec i (s.present w)
  | .illegal _ => emitIllegal 4#3 (s.present w)

/-- The output record of a word: what stands on the output ports once the word is presented (R30). It is read off a
run from reset, and the statement that it does not depend on the state is an obligation. -/
def decodeRecord (w : Word) : Record :=
  match runWord w State.reset with
  | .next t => t.out
  | .fault _ => State.reset.out
  | .refused _ => State.reset.out

/-- One step: the caller fetches the word at its pc, or no word is supplied and decode is not called (R326). -/
def stepOnce (s : State) : Host.Outcome State Fault Refusal :=
  match fetch s with
  | .ok w => runWord w s
  | .error f => .fault f

/-- The state with an instruction's bytes where the next step fetches: four bytes of the word whose low `nbits` bits are
`w`'s and whose other bits are 0, at the pc. The pc of a caller whose instructions are 2-byte aligned (R64) stays as it
is; an odd one is aligned, since nothing can be fetched from it. -/
def placeWord (s : State) (nbits w : Nat) : State :=
  let a : Addr := s.pc &&& 0xFFFFFFFFFFFFFFFE#64
  { s with pc := a, mem := storeWord s.mem a (BitVec.ofNat 32 (w % 2 ^ nbits)) }

end Sys2Proof.Machine
end

