-- ==== Sys2Proof/Machine/Step.lean ====
section
/-! DEFINITION. The step, and how an instruction is placed for it. -/

namespace Sys2Proof.Machine

/-- One step of caller and block. -/
def step (s : State) : Host.Outcome State Fault Refusal := stepOnce s

/-- The state with an instruction of `nbits` bits stored where the next step fetches (log entry 6). -/
def State.withFetchWord (s : State) (nbits w : Nat) : State := placeWord s nbits w

end Sys2Proof.Machine
end

