-- ==== Sys2Proof/Machine/CallerView.lean ====
section
/-! DEFINITION. What the spec tells the caller about a record: what to do with it (60_exceptions.md R322, R323, R339),
which register file an index names (10_state.md R43 and the Operands lines of 41 to 46), the size of the data access
(20_memory.md R65), the names of the rounding modes (30_encoding.md R93) and which tags can raise which exception at
execution (60_exceptions.md R324). The block itself uses none of it: these are tables for the caller's execution
stage, whose work is out of scope (00_scope.md R5). -/

namespace Sys2Proof

/-! ### Groups of tags (R34) -/

/-- FP loads. -/
def Opcode.isLoad : Opcode → Bool
  | .flw | .fld => true
  | _ => false

/-- FP stores. -/
def Opcode.isStore : Opcode → Bool
  | .fsw | .fsd => true
  | _ => false

/-- Load-reserved. -/
def Opcode.isLr : Opcode → Bool
  | .lr_w | .lr_d => true
  | _ => false

/-- Store-conditional and the read-modify-writes. -/
def Opcode.isScOrAmo : Opcode → Bool
  | .sc_w | .amoswap_w | .amoadd_w | .amoxor_w | .amoand_w | .amoor_w | .amomin_w | .amomax_w | .amominu_w | .amomaxu_w
  | .sc_d | .amoswap_d | .amoadd_d | .amoxor_d | .amoand_d | .amoor_d | .amomin_d | .amomax_d | .amominu_d
  | .amomaxu_d => true
  | _ => false

/-- The fused multiply-adds. -/
def Opcode.isFma : Opcode → Bool
  | .fmadd_s | .fmsub_s | .fnmsub_s | .fnmadd_s | .fmadd_d | .fmsub_d | .fnmsub_d | .fnmadd_d => true
  | _ => false

/-- One of the 84 instruction tags (R321): neither `illegal` nor `unimplemented`. -/
def Opcode.isInstruction : Opcode → Bool
  | .illegal | .unimplemented => false
  | _ => true

/-- The OP-FP tags: the instruction tags of no other group. -/
def Opcode.isOpFp (op : Opcode) : Bool :=
  op.isInstruction && !op.isLoad && !op.isStore && !op.isLr && !op.isScOrAmo && !op.isFma

/-! ### Which fields are defined (R40) -/

/-- Whether the block fixes the field's value for the opcode (R40). A caller must read no other field (R354). -/
def Opcode.defines (op : Opcode) : OutField → Bool
  | .rd => !op.isStore
  | .rs1 => true
  | .rs2 => !op.isLoad
  | .rs3 => op.isFma || !op.isInstruction
  | .imm => !(op.isFma || op.isOpFp)
  | .rm => op.isFma || op.isOpFp || !op.isInstruction

/-- How many bits the port of a field has (R33). -/
def OutField.width : OutField → Nat
  | .rd | .rs1 | .rs2 | .rs3 => 5
  | .imm => 64
  | .rm => 3

/-! ### Register files (R43; informative there, D29) -/

inductive RegFile where
  | integer
  | fp
  deriving DecidableEq, Repr

/-- The width of a register of the file: XLEN or FLEN (R8). -/
def RegFile.width : RegFile → Nat
  | .integer => Config.xlen
  | .fp => Config.flen

/-- The file of an OP-FP destination: the integer file for a compare, a classification, a move out and a conversion to
an integer. -/
def Opcode.opFpDestination : Opcode → RegFile
  | .feq_s | .flt_s | .fle_s | .fclass_s | .fmv_x_w | .fcvt_w_s | .fcvt_wu_s | .fcvt_l_s | .fcvt_lu_s
  | .feq_d | .flt_d | .fle_d | .fclass_d | .fmv_x_d | .fcvt_w_d | .fcvt_wu_d | .fcvt_l_d | .fcvt_lu_d => .integer
  | _ => .fp

/-- The file of an OP-FP first source: the integer file for a move in and a conversion from an integer. -/
def Opcode.opFpSource : Opcode → RegFile
  | .fmv_w_x | .fcvt_s_w | .fcvt_s_wu | .fcvt_s_l | .fcvt_s_lu
  | .fmv_d_x | .fcvt_d_w | .fcvt_d_wu | .fcvt_d_l | .fcvt_d_lu => .integer
  | _ => .fp

/-- Whether `rs2` of an OP-FP record is a selector and no register (R92). -/
def Opcode.rs2Selects : Opcode → Bool
  | .fsqrt_s | .fclass_s | .fmv_x_w | .fmv_w_x | .fcvt_w_s | .fcvt_wu_s | .fcvt_l_s | .fcvt_lu_s
  | .fcvt_s_w | .fcvt_s_wu | .fcvt_s_l | .fcvt_s_lu | .fcvt_s_d
  | .fsqrt_d | .fclass_d | .fmv_x_d | .fmv_d_x | .fcvt_w_d | .fcvt_wu_d | .fcvt_l_d | .fcvt_lu_d
  | .fcvt_d_w | .fcvt_d_wu | .fcvt_d_l | .fcvt_d_lu | .fcvt_d_s => true
  | _ => false

/-- The file an index port names, where it names a register (R43). The `rs2` of a load-reserved is among the atomics'
that name integer registers, though the record always carries index 0 there (R40). -/
def Opcode.regFile (op : Opcode) : OutField → Option RegFile
  | .rd =>
    if op.isLoad || op.isFma then some .fp
    else if op.isLr || op.isScOrAmo then some .integer
    else if op.isOpFp then some op.opFpDestination
    else none
  | .rs1 =>
    if op.isLoad || op.isStore || op.isLr || op.isScOrAmo then some .integer
    else if op.isFma then some .fp
    else if op.isOpFp then some op.opFpSource
    else none
  | .rs2 =>
    if op.isStore || op.isFma then some .fp
    else if op.isLr || op.isScOrAmo then some .integer
    else if op.isOpFp && !op.rs2Selects then some .fp
    else none
  | .rs3 => if op.isFma then some .fp else none
  | .imm => none
  | .rm => none

/-! ### Data accesses (R65; informative there, D32) -/

/-- Whether an atomic is of doubleword width. -/
def Opcode.isDoubleAtomic : Opcode → Bool
  | .lr_d | .sc_d | .amoswap_d | .amoadd_d | .amoxor_d | .amoand_d | .amoor_d | .amomin_d | .amomax_d | .amominu_d
  | .amomaxu_d => true
  | _ => false

/-- The bytes the execution stage accesses for a tag (R65). -/
def Opcode.accessBytes (op : Opcode) : Nat :=
  match op with
  | .flw | .fsw => 4
  | .fld | .fsd => 8
  | _ => if op.isLr || op.isScOrAmo then (if op.isDoubleAtomic then 8 else 4) else 0

/-! ### Rounding modes (R93; informative there, D15) -/

inductive RoundingMode where
  | rne | rtz | rdn | rup | rmm
  /-- 101 and 110: illegal at execution if used. -/
  | reserved
  /-- 111: use `frm`. -/
  | dyn
  deriving DecidableEq, Repr

def roundingMode (rm : Rm) : RoundingMode :=
  match rm with
  | 0b000#3 => .rne
  | 0b001#3 => .rtz
  | 0b010#3 => .rdn
  | 0b011#3 => .rup
  | 0b100#3 => .rmm
  | 0b101#3 => .reserved
  | 0b110#3 => .reserved
  | 0b111#3 => .dyn

end Sys2Proof

namespace Sys2Proof.Machine

/-! ### Fields and addresses -/

/-- A field of a record, at the widest port's width. -/
def Record.field (r : Record) : OutField → BitVec 64
  | .rd => r.rd.setWidth 64
  | .rs1 => r.rs1.setWidth 64
  | .rs2 => r.rs2.setWidth 64
  | .rs3 => r.rs3.setWidth 64
  | .imm => r.imm
  | .rm => r.rm.setWidth 64

/-- The address of that access, given the base register's value: modulo 2^64, and with no offset for an atomic, whose
`imm` is the ordering bits (R65). -/
def effectiveAddress (r : Record) (base : Addr) : Addr :=
  if r.opcode.isLr || r.opcode.isScOrAmo then base else base + r.imm

/-! ### Exceptions at execution (R324; informative there) -/

/-- Which decoded tags can raise a cause at execution (R324). The fetch raises codes 1 and 12, no record does. -/
def Cause.raisedBy (c : Cause) (op : Opcode) : Bool :=
  match c with
  | .illegalInstruction => op == .illegal || op.isLoad || op.isStore || op.isFma || op.isOpFp
  | .loadAddressMisaligned | .loadAccessFault | .loadPageFault => op.isLoad || op.isLr
  | .storeAmoAddressMisaligned | .storeAmoAccessFault | .storeAmoPageFault => op.isStore || op.isScOrAmo
  | .instructionAddressMisaligned | .instructionAccessFault | .breakpoint | .ecallFromU | .ecallFromS | .ecallFromM
  | .instructionPageFault => false

/-! ### What the caller does with a record (R322, R323, R339) -/

inductive CallerAction where
  /-- Raise an exception with a trap value (R322). -/
  | raise (c : Cause) (tval : BitVec 64)
  /-- Decline: the model has no meaning for the word (R323). -/
  | refuse
  /-- Hand the record to the execution stage, whose rules are outside the spec (R339). -/
  | execute
  deriving DecidableEq, Repr

/-- What the caller does when it comes to execute the record of a word it kept (R322: the record does not carry the raw
bits). -/
def callerAction (r : Record) (w : Word) : CallerAction :=
  match r.opcode with
  | .illegal => .raise .illegalInstruction (trapValue r.length w)
  | .unimplemented => .refuse
  | _ => .execute

end Sys2Proof.Machine
end

