-- ==== Sys2Proof/Safety.lean ====
section
/-! DEFINITION. The terms the statements use: the invariants of a run, what it means for an instruction to complete and
for a word to be answered, and the spec's own tables of what is illegal and what is delegated, written from the rules
that list them and not from the decoder. -/

namespace Sys2Proof.Machine

/-! ### Invariants -/

/-- The pc is 2-byte aligned, as instruction addresses are (spec 20_memory.md R64). -/
abbrev State.pcAligned (s : State) : Prop := s.pc.extractLsb' 0 1 = 0#1

/-- The output ports carry the record of the word on the input port: the block is combinational (10_state.md R30). -/
def State.combinational (s : State) : Prop := s.out = decodeRecord s.insn

/-- The invariant of a run. -/
def State.Inv (s : State) : Prop :=
  Memory.wf s.mem = true ∧ s.pcAligned ∧ s.combinational

/-- The four bytes of a word stand at an address, little-endian (20_memory.md R61). -/
abbrev bytesAt (m : Memory) (a : Addr) (w : Word) : Prop :=
  readByte m a = some (w.extractLsb 7 0) ∧ readByte m (a + 1#64) = some (w.extractLsb 15 8) ∧
    readByte m (a + 2#64) = some (w.extractLsb 23 16) ∧ readByte m (a + 3#64) = some (w.extractLsb 31 24)

/-! ### Completion -/

/-- The instruction completes in every state, with a record of `n` bytes of which `defined` holds: the record stands on
the output ports, the pc has moved on by its length (70_reset_and_hazards.md R353; that it wraps at 2^64 is log entry
4's), and everything else is as it was. -/
def Completes (i : Instr) (n : BitVec 3) (defined : Record → Prop) : Prop :=
  ∀ s : State, ∃ r : Record,
    exec i s = .next { s with out := r, pc := s.pc + n.setWidth 64 } ∧ r.length = n ∧ defined r

/-- The row answers `UNIMP(n)`, and the caller that continues past it goes on after its `n` bytes (10_state.md R35,
40_decode_top.md R129, 70_reset_and_hazards.md R353). -/
def AnswersUnimplemented (i : Instr) (n : BitVec 3) : Prop :=
  ∀ s : State, s.policy = .continuePast →
    exec i s = .next { s with
      out := { opcode := .unimplemented, length := n, rd := 0#5, rs1 := 0#5, rs2 := 0#5, rs3 := 0#5, imm := 0#64,
               rm := 0#3 },
      pc := s.pc + n.setWidth 64 }

/-! ### Words -/

/-- Whatever the state, presenting the word gives a next state with the record on the output ports. What else such a
state holds is what `Completes` says of the word's instruction. -/
def Answers (w : Word) (r : Record) : Prop :=
  ∀ s : State, ∃ t : State, runWord w s = .next t ∧ t.insn = w ∧ t.out = r

/-- Every word of the row is answered with a record of the tag and the length, and `fields` says the rest of it. -/
def RowAnswers (row : Row) (op : Opcode) (n : BitVec 3) (fields : Word → Record → Prop) : Prop :=
  ∀ w : Word, w &&& row.mask = row.value → ∃ r : Record, Answers w r ∧ r.opcode = op ∧ r.length = n ∧ fields w r

/-- The fields of an atomic's record (43_amo.md R180). -/
def amoFields (w : Word) (r : Record) : Prop :=
  r.rd = w.extractLsb 11 7 ∧ r.rs1 = w.extractLsb 19 15 ∧ r.rs2 = w.extractLsb 24 20 ∧
    r.imm = (w.extractLsb 26 25).setWidth 64

/-- The fields of a fused multiply-add's record (44_fma.md R220). -/
def fmaFields (w : Word) (r : Record) : Prop :=
  r.rd = w.extractLsb 11 7 ∧ r.rs1 = w.extractLsb 19 15 ∧ r.rs2 = w.extractLsb 24 20 ∧ r.rs3 = w.extractLsb 31 27 ∧
    r.rm = w.extractLsb 14 12

/-- The fields of an OP-FP record (45_op_fp_single.md R240). -/
def opFpFields (w : Word) (r : Record) : Prop :=
  r.rd = w.extractLsb 11 7 ∧ r.rs1 = w.extractLsb 19 15 ∧ r.rs2 = w.extractLsb 24 20 ∧ r.rm = w.extractLsb 14 12

/-- An OP-FP word of this `funct7` whose (`rs2`, `funct3`) is `bad` matches no selector, and is illegal
(45_op_fp_single.md R240). -/
def SelectorMismatch (funct7 : BitVec 7) (bad : BitVec 5 → BitVec 3 → Prop) : Prop :=
  ∀ w : Word, w.extractLsb 6 0 = 0b1010011#7 → w.extractLsb 31 25 = funct7 →
    bad (w.extractLsb 24 20) (w.extractLsb 14 12) → decodeRecord w = illegalRecord 4#3

/-! ### The spec's tables -/

/-- A (`funct7`, `rs2`, `funct3`) row of the OP-FP map (30_encoding.md R100). `none` is the table's dash: the field is an
operand and is not matched. -/
structure OpFpRow where
  funct7 : BitVec 7
  rs2 : Option (BitVec 5)
  funct3 : Option (BitVec 3)
  deriving DecidableEq, Repr

/-- Whether a field agrees with what a row asks of it. -/
def agrees {n : Nat} (want : Option (BitVec n)) (actual : BitVec n) : Bool :=
  match want with
  | none => true
  | some v => actual == v

/-- The single-precision column of R100, in its order. -/
def opFpSingleRows : List OpFpRow :=
  [⟨0b0000000#7, none, none⟩, ⟨0b0000100#7, none, none⟩, ⟨0b0001000#7, none, none⟩, ⟨0b0001100#7, none, none⟩,
   ⟨0b0101100#7, some 0b00000#5, none⟩,
   ⟨0b0010000#7, none, some 0b000#3⟩, ⟨0b0010000#7, none, some 0b001#3⟩, ⟨0b0010000#7, none, some 0b010#3⟩,
   ⟨0b0010100#7, none, some 0b000#3⟩, ⟨0b0010100#7, none, some 0b001#3⟩,
   ⟨0b1100000#7, some 0b00000#5, none⟩, ⟨0b1100000#7, some 0b00001#5, none⟩, ⟨0b1100000#7, some 0b00010#5, none⟩,
   ⟨0b1100000#7, some 0b00011#5, none⟩,
   ⟨0b1110000#7, some 0b00000#5, some 0b000#3⟩, ⟨0b1110000#7, some 0b00000#5, some 0b001#3⟩,
   ⟨0b1010000#7, none, some 0b010#3⟩, ⟨0b1010000#7, none, some 0b001#3⟩, ⟨0b1010000#7, none, some 0b000#3⟩,
   ⟨0b1101000#7, some 0b00000#5, none⟩, ⟨0b1101000#7, some 0b00001#5, none⟩, ⟨0b1101000#7, some 0b00010#5, none⟩,
   ⟨0b1101000#7, some 0b00011#5, none⟩,
   ⟨0b1111000#7, some 0b00000#5, some 0b000#3⟩, ⟨0b0100000#7, some 0b00001#5, none⟩]

/-- The double-precision column of R100, in its order. -/
def opFpDoubleRows : List OpFpRow :=
  [⟨0b0000001#7, none, none⟩, ⟨0b0000101#7, none, none⟩, ⟨0b0001001#7, none, none⟩, ⟨0b0001101#7, none, none⟩,
   ⟨0b0101101#7, some 0b00000#5, none⟩,
   ⟨0b0010001#7, none, some 0b000#3⟩, ⟨0b0010001#7, none, some 0b001#3⟩, ⟨0b0010001#7, none, some 0b010#3⟩,
   ⟨0b0010101#7, none, some 0b000#3⟩, ⟨0b0010101#7, none, some 0b001#3⟩,
   ⟨0b1100001#7, some 0b00000#5, none⟩, ⟨0b1100001#7, some 0b00001#5, none⟩, ⟨0b1100001#7, some 0b00010#5, none⟩,
   ⟨0b1100001#7, some 0b00011#5, none⟩,
   ⟨0b1110001#7, some 0b00000#5, some 0b000#3⟩, ⟨0b1110001#7, some 0b00000#5, some 0b001#3⟩,
   ⟨0b1010001#7, none, some 0b010#3⟩, ⟨0b1010001#7, none, some 0b001#3⟩, ⟨0b1010001#7, none, some 0b000#3⟩,
   ⟨0b1101001#7, some 0b00000#5, none⟩, ⟨0b1101001#7, some 0b00001#5, none⟩, ⟨0b1101001#7, some 0b00010#5, none⟩,
   ⟨0b1101001#7, some 0b00011#5, none⟩,
   ⟨0b1111001#7, some 0b00000#5, some 0b000#3⟩, ⟨0b0100001#7, some 0b00000#5, none⟩]

/-- The word's (`funct7`, `rs2`, `funct3`) is in R100's table. -/
abbrev opFpListed (w : Word) : Prop :=
  ∃ row ∈ opFpSingleRows ++ opFpDoubleRows, w.extractLsb 31 25 = row.funct7 ∧
    agrees row.rs2 (w.extractLsb 24 20) = true ∧ agrees row.funct3 (w.extractLsb 14 12) = true

/-- The eleven operations of the AMO map (30_encoding.md R99). -/
def amoFunct5s : List (BitVec 5) :=
  [0b00010#5, 0b00011#5, 0b00001#5, 0b00000#5, 0b00100#5, 0b01100#5, 0b01000#5, 0b10000#5, 0b10100#5, 0b11000#5,
   0b11100#5]

/-- What makes an AMO word illegal (43_amo.md R203). -/
abbrev amoIllegal (w : Word) : Prop :=
  w.extractLsb 14 12 ∉ [0b010#3, 0b011#3] ∨ w.extractLsb 31 27 ∉ amoFunct5s ∨
    (w.extractLsb 31 27 = 0b00010#5 ∧ w.extractLsb 24 20 ≠ 0#5)

/-- The five cases in which a word is illegal (30_encoding.md R102), and the length of the record in each. -/
abbrev illegalWith (w : Word) (n : BitVec 3) : Prop :=
  (w.extractLsb 4 0 = 0b11111#5 ∧ n = 2#3) ∨
  (n = 4#3 ∧
    ((w.extractLsb 6 0 ∈ [0b0000111#7, 0b0100111#7] ∧ w.extractLsb 14 12 ∉ [0b010#3, 0b011#3]) ∨
     (w.extractLsb 6 0 = 0b0101111#7 ∧ amoIllegal w) ∨
     (w.extractLsb 6 0 ∈ [0b1000011#7, 0b1000111#7, 0b1001011#7, 0b1001111#7] ∧
       w.extractLsb 26 25 ∈ [0b10#2, 0b11#2]) ∨
     (w.extractLsb 6 0 = 0b1010011#7 ∧ ¬ opFpListed w)))

/-- The twenty delegated major opcodes (30_encoding.md R95). -/
def delegatedMajors : List (BitVec 7) :=
  [0x03#7, 0x0B#7, 0x0F#7, 0x13#7, 0x17#7, 0x1B#7, 0x23#7, 0x2B#7, 0x33#7, 0x37#7, 0x3B#7, 0x57#7, 0x5B#7, 0x63#7,
   0x67#7, 0x6B#7, 0x6F#7, 0x73#7, 0x77#7, 0x7B#7]

/-- The four compressed pairs that are decoded (40_decode_top.md R125): (`quadrant`, `cfunct3`). -/
def decodedPairs : List (BitVec 2 × BitVec 3) :=
  [(0b00#2, 0b001#3), (0b00#2, 0b101#3), (0b10#2, 0b001#3), (0b10#2, 0b101#3)]

/-- The words that are delegated, and the length of the record of each (41_compressed_fp.md R145, 30_encoding.md R95). -/
abbrev delegatedWith (w : Word) (n : BitVec 3) : Prop :=
  (w.extractLsb 1 0 ≠ 0b11#2 ∧ (w.extractLsb 1 0, w.extractLsb 15 13) ∉ decodedPairs ∧ n = 2#3) ∨
  (w.extractLsb 6 0 ∈ delegatedMajors ∧ n = 4#3)

/-- The double-precision tag of a single-precision OP-FP tag (46_op_fp_double.md R280). Of other tags it says nothing. -/
def doubleTag : Opcode → Option Opcode
  | .fadd_s => some .fadd_d | .fsub_s => some .fsub_d | .fmul_s => some .fmul_d | .fdiv_s => some .fdiv_d
  | .fsqrt_s => some .fsqrt_d | .fsgnj_s => some .fsgnj_d | .fsgnjn_s => some .fsgnjn_d
  | .fsgnjx_s => some .fsgnjx_d | .fmin_s => some .fmin_d | .fmax_s => some .fmax_d
  | .fcvt_w_s => some .fcvt_w_d | .fcvt_wu_s => some .fcvt_wu_d | .fcvt_l_s => some .fcvt_l_d
  | .fcvt_lu_s => some .fcvt_lu_d | .fmv_x_w => some .fmv_x_d | .fclass_s => some .fclass_d
  | .feq_s => some .feq_d | .flt_s => some .flt_d | .fle_s => some .fle_d
  | .fcvt_s_w => some .fcvt_d_w | .fcvt_s_wu => some .fcvt_d_wu | .fcvt_s_l => some .fcvt_d_l
  | .fcvt_s_lu => some .fcvt_d_lu | .fmv_w_x => some .fmv_d_x
  | _ => none

end Sys2Proof.Machine
end

