-- ==== Sys2Proof/Certificates/Slice0/Obligations.lean ====
section
/-! DEFINITION. The statements for the provers. OBLIGATIONS.json gives each one's title, tier and grounds. -/

open Sys2Proof Sys2Proof.Machine

/-! ### Completion: every constructor of Instr, in every state -/

/-- The compressed loads and stores complete in every state, for all operands (R141 to R144, R40, R337). -/
def Obligations.CompressedFpInstructionsComplete : Prop :=
  (∀ rd rs1 imm, Completes (.cFld rd rs1 imm) 2#3 fun r => r.opcode = .fld ∧ r.rd = rd ∧ r.rs1 = rs1 ∧ r.imm = imm) ∧
  (∀ rs1 rs2 imm,
    Completes (.cFsd rs1 rs2 imm) 2#3 fun r => r.opcode = .fsd ∧ r.rs1 = rs1 ∧ r.rs2 = rs2 ∧ r.imm = imm) ∧
  (∀ rd imm, Completes (.cFldsp rd imm) 2#3 fun r => r.opcode = .fld ∧ r.rd = rd ∧ r.rs1 = 2#5 ∧ r.imm = imm) ∧
  (∀ rs2 imm, Completes (.cFsdsp rs2 imm) 2#3 fun r => r.opcode = .fsd ∧ r.rs1 = 2#5 ∧ r.rs2 = rs2 ∧ r.imm = imm)

/-- The standard loads and stores complete in every state, for all operands (R161, R162, R164, R165, R40, R337). -/
def Obligations.FpLoadStoreInstructionsComplete : Prop :=
  (∀ rd rs1 imm, Completes (.flw rd rs1 imm) 4#3 fun r => r.opcode = .flw ∧ r.rd = rd ∧ r.rs1 = rs1 ∧ r.imm = imm) ∧
  (∀ rd rs1 imm, Completes (.fld rd rs1 imm) 4#3 fun r => r.opcode = .fld ∧ r.rd = rd ∧ r.rs1 = rs1 ∧ r.imm = imm) ∧
  (∀ rs1 rs2 imm,
    Completes (.fsw rs1 rs2 imm) 4#3 fun r => r.opcode = .fsw ∧ r.rs1 = rs1 ∧ r.rs2 = rs2 ∧ r.imm = imm) ∧
  (∀ rs1 rs2 imm,
    Completes (.fsd rs1 rs2 imm) 4#3 fun r => r.opcode = .fsd ∧ r.rs1 = rs1 ∧ r.rs2 = rs2 ∧ r.imm = imm)

/-- The atomics of word width complete in every state, for all operands; LR's record has `rs2` 0 (R181 to R191, R40). -/
def Obligations.AmoWordInstructionsComplete : Prop :=
  (∀ rd rs1 aqrl, Completes (.lrW rd rs1 aqrl) 4#3 fun r =>
    r.opcode = .lr_w ∧ r.rd = rd ∧ r.rs1 = rs1 ∧ r.rs2 = 0#5 ∧ r.imm = aqrl.setWidth 64) ∧
  ∀ p ∈ [(Instr.scW, Opcode.sc_w), (.amoswapW, .amoswap_w), (.amoaddW, .amoadd_w), (.amoxorW, .amoxor_w),
      (.amoandW, .amoand_w), (.amoorW, .amoor_w), (.amominW, .amomin_w), (.amomaxW, .amomax_w),
      (.amominuW, .amominu_w), (.amomaxuW, .amomaxu_w)],
    ∀ rd rs1 rs2 aqrl, Completes (p.1 rd rs1 rs2 aqrl) 4#3 fun r =>
      r.opcode = p.2 ∧ r.rd = rd ∧ r.rs1 = rs1 ∧ r.rs2 = rs2 ∧ r.imm = aqrl.setWidth 64

/-- The same of doubleword width (R192 to R202, R40). -/
def Obligations.AmoDoublewordInstructionsComplete : Prop :=
  (∀ rd rs1 aqrl, Completes (.lrD rd rs1 aqrl) 4#3 fun r =>
    r.opcode = .lr_d ∧ r.rd = rd ∧ r.rs1 = rs1 ∧ r.rs2 = 0#5 ∧ r.imm = aqrl.setWidth 64) ∧
  ∀ p ∈ [(Instr.scD, Opcode.sc_d), (.amoswapD, .amoswap_d), (.amoaddD, .amoadd_d), (.amoxorD, .amoxor_d),
      (.amoandD, .amoand_d), (.amoorD, .amoor_d), (.amominD, .amomin_d), (.amomaxD, .amomax_d),
      (.amominuD, .amominu_d), (.amomaxuD, .amomaxu_d)],
    ∀ rd rs1 rs2 aqrl, Completes (p.1 rd rs1 rs2 aqrl) 4#3 fun r =>
      r.opcode = p.2 ∧ r.rd = rd ∧ r.rs1 = rs1 ∧ r.rs2 = rs2 ∧ r.imm = aqrl.setWidth 64

/-- The fused multiply-adds complete in every state, for all operands (R221 to R228, R40). -/
def Obligations.FmaInstructionsComplete : Prop :=
  ∀ p ∈ [(Instr.fmaddS, Opcode.fmadd_s), (.fmsubS, .fmsub_s), (.fnmsubS, .fnmsub_s), (.fnmaddS, .fnmadd_s),
      (.fmaddD, .fmadd_d), (.fmsubD, .fmsub_d), (.fnmsubD, .fnmsub_d), (.fnmaddD, .fnmadd_d)],
    ∀ rd rs1 rs2 rs3 rm, Completes (p.1 rd rs1 rs2 rs3 rm) 4#3 fun r =>
      r.opcode = p.2 ∧ r.rd = rd ∧ r.rs1 = rs1 ∧ r.rs2 = rs2 ∧ r.rs3 = rs3 ∧ r.rm = rm

/-- The single-precision OP-FP instructions complete in every state, for all operands, by their four operand forms;
a selector stands in its field of the record (R241 to R265, R40). -/
def Obligations.OpFpSingleInstructionsComplete : Prop :=
  (∀ p ∈ [(Instr.faddS, Opcode.fadd_s), (.fsubS, .fsub_s), (.fmulS, .fmul_s), (.fdivS, .fdiv_s)],
    ∀ rd rs1 rs2 rm, Completes (p.1 rd rs1 rs2 rm) 4#3 fun r =>
      r.opcode = p.2 ∧ r.rd = rd ∧ r.rs1 = rs1 ∧ r.rs2 = rs2 ∧ r.rm = rm) ∧
  (∀ p ∈ [(Instr.fsqrtS, Opcode.fsqrt_s, 0#5), (.fcvtWS, .fcvt_w_s, 0#5), (.fcvtWuS, .fcvt_wu_s, 1#5),
      (.fcvtLS, .fcvt_l_s, 2#5), (.fcvtLuS, .fcvt_lu_s, 3#5), (.fcvtSW, .fcvt_s_w, 0#5), (.fcvtSWu, .fcvt_s_wu, 1#5),
      (.fcvtSL, .fcvt_s_l, 2#5), (.fcvtSLu, .fcvt_s_lu, 3#5), (.fcvtSD, .fcvt_s_d, 1#5)],
    ∀ rd rs1 rm, Completes (p.1 rd rs1 rm) 4#3 fun r =>
      r.opcode = p.2.1 ∧ r.rd = rd ∧ r.rs1 = rs1 ∧ r.rs2 = p.2.2 ∧ r.rm = rm) ∧
  (∀ p ∈ [(Instr.fsgnjS, Opcode.fsgnj_s, 0#3), (.fsgnjnS, .fsgnjn_s, 1#3), (.fsgnjxS, .fsgnjx_s, 2#3),
      (.fminS, .fmin_s, 0#3), (.fmaxS, .fmax_s, 1#3), (.feqS, .feq_s, 2#3), (.fltS, .flt_s, 1#3), (.fleS, .fle_s, 0#3)],
    ∀ rd rs1 rs2, Completes (p.1 rd rs1 rs2) 4#3 fun r =>
      r.opcode = p.2.1 ∧ r.rd = rd ∧ r.rs1 = rs1 ∧ r.rs2 = rs2 ∧ r.rm = p.2.2) ∧
  (∀ p ∈ [(Instr.fmvXW, Opcode.fmv_x_w, 0#3), (.fclassS, .fclass_s, 1#3), (.fmvWX, .fmv_w_x, 0#3)],
    ∀ rd rs1, Completes (p.1 rd rs1) 4#3 fun r =>
      r.opcode = p.2.1 ∧ r.rd = rd ∧ r.rs1 = rs1 ∧ r.rs2 = 0#5 ∧ r.rm = p.2.2)

/-- The same of double precision (R281 to R305, R40). -/
def Obligations.OpFpDoubleInstructionsComplete : Prop :=
  (∀ p ∈ [(Instr.faddD, Opcode.fadd_d), (.fsubD, .fsub_d), (.fmulD, .fmul_d), (.fdivD, .fdiv_d)],
    ∀ rd rs1 rs2 rm, Completes (p.1 rd rs1 rs2 rm) 4#3 fun r =>
      r.opcode = p.2 ∧ r.rd = rd ∧ r.rs1 = rs1 ∧ r.rs2 = rs2 ∧ r.rm = rm) ∧
  (∀ p ∈ [(Instr.fsqrtD, Opcode.fsqrt_d, 0#5), (.fcvtWD, .fcvt_w_d, 0#5), (.fcvtWuD, .fcvt_wu_d, 1#5),
      (.fcvtLD, .fcvt_l_d, 2#5), (.fcvtLuD, .fcvt_lu_d, 3#5), (.fcvtDW, .fcvt_d_w, 0#5), (.fcvtDWu, .fcvt_d_wu, 1#5),
      (.fcvtDL, .fcvt_d_l, 2#5), (.fcvtDLu, .fcvt_d_lu, 3#5), (.fcvtDS, .fcvt_d_s, 0#5)],
    ∀ rd rs1 rm, Completes (p.1 rd rs1 rm) 4#3 fun r =>
      r.opcode = p.2.1 ∧ r.rd = rd ∧ r.rs1 = rs1 ∧ r.rs2 = p.2.2 ∧ r.rm = rm) ∧
  (∀ p ∈ [(Instr.fsgnjD, Opcode.fsgnj_d, 0#3), (.fsgnjnD, .fsgnjn_d, 1#3), (.fsgnjxD, .fsgnjx_d, 2#3),
      (.fminD, .fmin_d, 0#3), (.fmaxD, .fmax_d, 1#3), (.feqD, .feq_d, 2#3), (.fltD, .flt_d, 1#3), (.fleD, .fle_d, 0#3)],
    ∀ rd rs1 rs2, Completes (p.1 rd rs1 rs2) 4#3 fun r =>
      r.opcode = p.2.1 ∧ r.rd = rd ∧ r.rs1 = rs1 ∧ r.rs2 = rs2 ∧ r.rm = p.2.2) ∧
  (∀ p ∈ [(Instr.fmvXD, Opcode.fmv_x_d, 0#3), (.fclassD, .fclass_d, 1#3), (.fmvDX, .fmv_d_x, 0#3)],
    ∀ rd rs1, Completes (p.1 rd rs1) 4#3 fun r =>
      r.opcode = p.2.1 ∧ r.rd = rd ∧ r.rs1 = rs1 ∧ r.rs2 = 0#5 ∧ r.rm = p.2.2)

/-- Every delegated row answers `UNIMP`, of length 2 for a compressed pair and 4 for a major opcode, in every state of a
caller that continues past it (R129, R145, R95, R353; that such a caller is the one at reset is log entry 7, the
wrap of the pc log entry 4). -/
def Obligations.DelegatedRowsAnswerUnimplemented : Prop :=
  (∀ i ∈ [Instr.unimpCAddi4spn, .unimpCLw, .unimpCLd, .unimpCReserved, .unimpCSw, .unimpCSd, .unimpCNopAddi,
      .unimpCAddiw, .unimpCLi, .unimpCLuiAddi16sp, .unimpCMiscAlu, .unimpCJ, .unimpCBeqz, .unimpCBnez, .unimpCSlli,
      .unimpCLwsp, .unimpCLdsp, .unimpCJrMvAdd, .unimpCSwsp, .unimpCSdsp], AnswersUnimplemented i 2#3) ∧
  (∀ i ∈ [Instr.unimpLoad, .unimpCustom0, .unimpMiscMem, .unimpOpImm, .unimpAuipc, .unimpOpImm32, .unimpStore,
      .unimpCustom1, .unimpOp, .unimpLui, .unimpOp32, .unimpOpV, .unimpCustom2, .unimpBranch, .unimpJalr,
      .unimpReserved, .unimpJal, .unimpSystem, .unimpOpP, .unimpCustom3], AnswersUnimplemented i 4#3)

/-- The reserved long row answers `ILLEGAL(2)` in every state: a caller that continues moves on by 2, a caller that traps
takes the exception with the parcel as trap value (R124, R322, R353; the rest of the entry is log entry 9's, the wrap of the pc
log entry 4's, the width of `mtval` log entry 15's). -/
def Obligations.ReservedLongRowCompletes : Prop :=
  ∀ s : State,
    (s.policy = .continuePast →
      exec .illegalLong s = .next { s with
        out := { opcode := .illegal, length := 2#3, rd := 0#5, rs1 := 0#5, rs2 := 0#5, rs3 := 0#5, imm := 0#64,
                 rm := 0#3 },
        pc := s.pc + 2#64 }) ∧
    (s.policy = .trapOrRefuse →
      exec .illegalLong s = .next { s with
        out := { opcode := .illegal, length := 2#3, rd := 0#5, rs1 := 0#5, rs2 := 0#5, rs3 := 0#5, imm := 0#64,
                 rm := 0#3 },
        mepc := s.pc, mcause := 2#64, mtval := (s.insn.extractLsb 15 0).setWidth 64,
        mstatus := { mie := false, mpie := s.mstatus.mie, mpp := s.mode }, mode := .machine,
        pc := s.mtvec &&& 0xFFFFFFFFFFFFFFFC#64 })

/-! ### The records, by the rules and the rows of the opcode table -/

/-- C.FLD, C.FSD, C.FLDSP, C.FSDSP (R141 to R144): every word of the row, in every state. -/
def Obligations.CompressedFpRecords : Prop :=
  RowAnswers ⟨0xE003#32, 0x2000#32⟩ .fld 2#3 (fun w r =>
    r.rd = (w.extractLsb 4 2).setWidth 5 + 8#5 ∧ r.rs1 = (w.extractLsb 9 7).setWidth 5 + 8#5 ∧
    r.imm = (w.extractLsb 6 5 ++ w.extractLsb 12 10 ++ 0#3).setWidth 64) ∧
  RowAnswers ⟨0xE003#32, 0xA000#32⟩ .fsd 2#3 (fun w r =>
    r.rs2 = (w.extractLsb 4 2).setWidth 5 + 8#5 ∧ r.rs1 = (w.extractLsb 9 7).setWidth 5 + 8#5 ∧
    r.imm = (w.extractLsb 6 5 ++ w.extractLsb 12 10 ++ 0#3).setWidth 64) ∧
  RowAnswers ⟨0xE003#32, 0x2002#32⟩ .fld 2#3 (fun w r =>
    r.rd = w.extractLsb 11 7 ∧ r.rs1 = 2#5 ∧
    r.imm = (w.extractLsb 4 2 ++ w.extractLsb 12 12 ++ w.extractLsb 6 5 ++ 0#3).setWidth 64) ∧
  RowAnswers ⟨0xE003#32, 0xA002#32⟩ .fsd 2#3 (fun w r =>
    r.rs2 = w.extractLsb 6 2 ∧ r.rs1 = 2#5 ∧
    r.imm = (w.extractLsb 9 7 ++ w.extractLsb 12 10 ++ 0#3).setWidth 64)

/-- FLW, FLD, FSW, FSD (R161, R162, R164, R165): every word of the row, in every state. -/
def Obligations.FpLoadStoreRecords : Prop :=
  (∀ p ∈ [(Row.mk 0x707F#32 0x2007#32, Opcode.flw), (Row.mk 0x707F#32 0x3007#32, Opcode.fld)],
    RowAnswers p.1 p.2 4#3 fun w r =>
      r.rd = w.extractLsb 11 7 ∧ r.rs1 = w.extractLsb 19 15 ∧ r.imm = (w.extractLsb 31 20).signExtend 64) ∧
  (∀ p ∈ [(Row.mk 0x707F#32 0x2027#32, Opcode.fsw), (Row.mk 0x707F#32 0x3027#32, Opcode.fsd)],
    RowAnswers p.1 p.2 4#3 fun w r =>
      r.rs1 = w.extractLsb 19 15 ∧ r.rs2 = w.extractLsb 24 20 ∧
      r.imm = (w.extractLsb 31 25 ++ w.extractLsb 11 7).signExtend 64)

/-- The atomics of word width (R181 to R191): every word of the row, in every state; an LR word with `rs2` not 0 is
`ILLEGAL(4)`. -/
def Obligations.AmoWordRecords : Prop :=
  RowAnswers ⟨0xF9F0707F#32, 0x1000202F#32⟩ .lr_w 4#3 (fun w r => amoFields w r ∧ r.rs2 = 0#5) ∧
  (∀ w : Word, w &&& 0xF800707F#32 = 0x1000202F#32 → w.extractLsb 24 20 ≠ 0#5 → decodeRecord w = illegalRecord 4#3) ∧
  ∀ p ∈ [(0x1800202F#32, Opcode.sc_w), (0x0800202F#32, .amoswap_w), (0x0000202F#32, .amoadd_w),
      (0x2000202F#32, .amoxor_w), (0x6000202F#32, .amoand_w), (0x4000202F#32, .amoor_w), (0x8000202F#32, .amomin_w),
      (0xA000202F#32, .amomax_w), (0xC000202F#32, .amominu_w), (0xE000202F#32, .amomaxu_w)],
    RowAnswers ⟨0xF800707F#32, p.1⟩ p.2 4#3 amoFields

/-- The atomics of doubleword width (R192 to R202). -/
def Obligations.AmoDoublewordRecords : Prop :=
  RowAnswers ⟨0xF9F0707F#32, 0x1000302F#32⟩ .lr_d 4#3 (fun w r => amoFields w r ∧ r.rs2 = 0#5) ∧
  (∀ w : Word, w &&& 0xF800707F#32 = 0x1000302F#32 → w.extractLsb 24 20 ≠ 0#5 → decodeRecord w = illegalRecord 4#3) ∧
  ∀ p ∈ [(0x1800302F#32, Opcode.sc_d), (0x0800302F#32, .amoswap_d), (0x0000302F#32, .amoadd_d),
      (0x2000302F#32, .amoxor_d), (0x6000302F#32, .amoand_d), (0x4000302F#32, .amoor_d), (0x8000302F#32, .amomin_d),
      (0xA000302F#32, .amomax_d), (0xC000302F#32, .amominu_d), (0xE000302F#32, .amomaxu_d)],
    RowAnswers ⟨0xF800707F#32, p.1⟩ p.2 4#3 amoFields

/-- The fused multiply-adds (R221 to R228): every word of the row, in every state; another format is illegal. -/
def Obligations.FmaRecords : Prop :=
  (∀ p ∈ [(0x00000043#32, Opcode.fmadd_s), (0x00000047#32, .fmsub_s), (0x0000004B#32, .fnmsub_s),
      (0x0000004F#32, .fnmadd_s), (0x02000043#32, .fmadd_d), (0x02000047#32, .fmsub_d), (0x0200004B#32, .fnmsub_d),
      (0x0200004F#32, .fnmadd_d)],
    RowAnswers ⟨0x0600007F#32, p.1⟩ p.2 4#3 fmaFields) ∧
  ∀ w : Word, w.extractLsb 6 0 ∈ [0b1000011#7, 0b1000111#7, 0b1001011#7, 0b1001111#7] →
    w.extractLsb 26 25 ∈ [0b10#2, 0b11#2] → decodeRecord w = illegalRecord 4#3

/-- Single precision: arithmetic, square root, sign injection, minimum and maximum (R241 to R250): every word
of each row, in every state; a selector that no row takes is illegal. -/
def Obligations.OpFpSingleArithmeticRecords : Prop :=
  (∀ p ∈ [(0x00000053#32, Opcode.fadd_s), (0x08000053#32, .fsub_s), (0x10000053#32, .fmul_s), (0x18000053#32, .fdiv_s)],
    RowAnswers ⟨0xFE00007F#32, p.1⟩ p.2 4#3 opFpFields) ∧
  RowAnswers ⟨0xFFF0007F#32, 0x58000053#32⟩ .fsqrt_s 4#3 (fun w r => opFpFields w r ∧ r.rs2 = 0#5) ∧
  (∀ p ∈ [(0x20000053#32, Opcode.fsgnj_s, 0#3), (0x20001053#32, .fsgnjn_s, 1#3), (0x20002053#32, .fsgnjx_s, 2#3),
      (0x28000053#32, .fmin_s, 0#3), (0x28001053#32, .fmax_s, 1#3)],
    RowAnswers ⟨0xFE00707F#32, p.1⟩ p.2.1 4#3 fun w r => opFpFields w r ∧ r.rm = p.2.2) ∧
  SelectorMismatch 0b0101100#7 (fun rs2 _ => rs2 ≠ 0b00000#5) ∧
  SelectorMismatch 0b0010000#7 (fun _ funct3 => funct3 ∉ [0b000#3, 0b001#3, 0b010#3]) ∧
  SelectorMismatch 0b0010100#7 (fun _ funct3 => funct3 ∉ [0b000#3, 0b001#3])

/-- Single precision: the conversions (R251 to R254, R260 to R263, R265), and the selectors that no row takes. -/
def Obligations.OpFpSingleConversionRecords : Prop :=
  (∀ p ∈ [(0xC0000053#32, Opcode.fcvt_w_s, 0#5), (0xC0100053#32, .fcvt_wu_s, 1#5), (0xC0200053#32, .fcvt_l_s, 2#5),
      (0xC0300053#32, .fcvt_lu_s, 3#5), (0xD0000053#32, .fcvt_s_w, 0#5), (0xD0100053#32, .fcvt_s_wu, 1#5),
      (0xD0200053#32, .fcvt_s_l, 2#5), (0xD0300053#32, .fcvt_s_lu, 3#5), (0x40100053#32, .fcvt_s_d, 1#5)],
    RowAnswers ⟨0xFFF0007F#32, p.1⟩ p.2.1 4#3 fun w r => opFpFields w r ∧ r.rs2 = p.2.2) ∧
  SelectorMismatch 0b1100000#7 (fun rs2 _ => rs2 ∉ [0b00000#5, 0b00001#5, 0b00010#5, 0b00011#5]) ∧
  SelectorMismatch 0b1101000#7 (fun rs2 _ => rs2 ∉ [0b00000#5, 0b00001#5, 0b00010#5, 0b00011#5]) ∧
  SelectorMismatch 0b0100000#7 (fun rs2 _ => rs2 ≠ 0b00001#5)

/-- Single precision: moves, classification and compares (R255 to R259, R264), and the selectors that no row
takes. -/
def Obligations.OpFpSingleMoveCompareRecords : Prop :=
  (∀ p ∈ [(0xE0000053#32, Opcode.fmv_x_w, 0#3), (0xE0001053#32, .fclass_s, 1#3), (0xF0000053#32, .fmv_w_x, 0#3)],
    RowAnswers ⟨0xFFF0707F#32, p.1⟩ p.2.1 4#3 fun w r => opFpFields w r ∧ r.rs2 = 0#5 ∧ r.rm = p.2.2) ∧
  (∀ p ∈ [(0xA0002053#32, Opcode.feq_s, 2#3), (0xA0001053#32, .flt_s, 1#3), (0xA0000053#32, .fle_s, 0#3)],
    RowAnswers ⟨0xFE00707F#32, p.1⟩ p.2.1 4#3 fun w r => opFpFields w r ∧ r.rm = p.2.2) ∧
  SelectorMismatch 0b1110000#7 (fun rs2 funct3 => rs2 ≠ 0b00000#5 ∨ funct3 ∉ [0b000#3, 0b001#3]) ∧
  SelectorMismatch 0b1111000#7 (fun rs2 funct3 => rs2 ≠ 0b00000#5 ∨ funct3 ≠ 0b000#3) ∧
  SelectorMismatch 0b1010000#7 (fun _ funct3 => funct3 ∉ [0b000#3, 0b001#3, 0b010#3])

/-- Double precision: arithmetic, square root, sign injection, minimum and maximum (R281 to R290): every word
of each row, in every state; a selector that no row takes is illegal. -/
def Obligations.OpFpDoubleArithmeticRecords : Prop :=
  (∀ p ∈ [(0x02000053#32, Opcode.fadd_d), (0x0A000053#32, .fsub_d), (0x12000053#32, .fmul_d), (0x1A000053#32, .fdiv_d)],
    RowAnswers ⟨0xFE00007F#32, p.1⟩ p.2 4#3 opFpFields) ∧
  RowAnswers ⟨0xFFF0007F#32, 0x5A000053#32⟩ .fsqrt_d 4#3 (fun w r => opFpFields w r ∧ r.rs2 = 0#5) ∧
  (∀ p ∈ [(0x22000053#32, Opcode.fsgnj_d, 0#3), (0x22001053#32, .fsgnjn_d, 1#3), (0x22002053#32, .fsgnjx_d, 2#3),
      (0x2A000053#32, .fmin_d, 0#3), (0x2A001053#32, .fmax_d, 1#3)],
    RowAnswers ⟨0xFE00707F#32, p.1⟩ p.2.1 4#3 fun w r => opFpFields w r ∧ r.rm = p.2.2) ∧
  SelectorMismatch 0b0101101#7 (fun rs2 _ => rs2 ≠ 0b00000#5) ∧
  SelectorMismatch 0b0010001#7 (fun _ funct3 => funct3 ∉ [0b000#3, 0b001#3, 0b010#3]) ∧
  SelectorMismatch 0b0010101#7 (fun _ funct3 => funct3 ∉ [0b000#3, 0b001#3])

/-- Double precision: the conversions (R291 to R294, R300 to R303, R305), and the selectors that no row takes. -/
def Obligations.OpFpDoubleConversionRecords : Prop :=
  (∀ p ∈ [(0xC2000053#32, Opcode.fcvt_w_d, 0#5), (0xC2100053#32, .fcvt_wu_d, 1#5), (0xC2200053#32, .fcvt_l_d, 2#5),
      (0xC2300053#32, .fcvt_lu_d, 3#5), (0xD2000053#32, .fcvt_d_w, 0#5), (0xD2100053#32, .fcvt_d_wu, 1#5),
      (0xD2200053#32, .fcvt_d_l, 2#5), (0xD2300053#32, .fcvt_d_lu, 3#5), (0x42000053#32, .fcvt_d_s, 0#5)],
    RowAnswers ⟨0xFFF0007F#32, p.1⟩ p.2.1 4#3 fun w r => opFpFields w r ∧ r.rs2 = p.2.2) ∧
  SelectorMismatch 0b1100001#7 (fun rs2 _ => rs2 ∉ [0b00000#5, 0b00001#5, 0b00010#5, 0b00011#5]) ∧
  SelectorMismatch 0b1101001#7 (fun rs2 _ => rs2 ∉ [0b00000#5, 0b00001#5, 0b00010#5, 0b00011#5]) ∧
  SelectorMismatch 0b0100001#7 (fun rs2 _ => rs2 ≠ 0b00000#5)

/-- Double precision: moves, classification and compares (R295 to R299, R304), and the selectors that no row
takes. -/
def Obligations.OpFpDoubleMoveCompareRecords : Prop :=
  (∀ p ∈ [(0xE2000053#32, Opcode.fmv_x_d, 0#3), (0xE2001053#32, .fclass_d, 1#3), (0xF2000053#32, .fmv_d_x, 0#3)],
    RowAnswers ⟨0xFFF0707F#32, p.1⟩ p.2.1 4#3 fun w r => opFpFields w r ∧ r.rs2 = 0#5 ∧ r.rm = p.2.2) ∧
  (∀ p ∈ [(0xA2002053#32, Opcode.feq_d, 2#3), (0xA2001053#32, .flt_d, 1#3), (0xA2000053#32, .fle_d, 0#3)],
    RowAnswers ⟨0xFE00707F#32, p.1⟩ p.2.1 4#3 fun w r => opFpFields w r ∧ r.rm = p.2.2) ∧
  SelectorMismatch 0b1110001#7 (fun rs2 funct3 => rs2 ≠ 0b00000#5 ∨ funct3 ∉ [0b000#3, 0b001#3]) ∧
  SelectorMismatch 0b1111001#7 (fun rs2 funct3 => rs2 ≠ 0b00000#5 ∨ funct3 ≠ 0b000#3) ∧
  SelectorMismatch 0b1010001#7 (fun _ funct3 => funct3 ∉ [0b000#3, 0b001#3, 0b010#3])

/-! ### Laws of the record -/

/-- The length law (R37). -/
def Obligations.LengthLaw : Prop :=
  ∀ w : Word,
    (w.extractLsb 1 0 ≠ 0b11#2 → (decodeRecord w).length = 2#3) ∧
    (w.extractLsb 4 0 = 0b11111#5 → (decodeRecord w).length = 2#3) ∧
    (w.extractLsb 1 0 = 0b11#2 → w.extractLsb 4 0 ≠ 0b11111#5 → (decodeRecord w).length = 4#3)

/-- A word is illegal in exactly the five cases of R102; the record is then `ILLEGAL(n)`, its other fields 0 (R128). -/
def Obligations.IllegalExactlyInFiveCases : Prop :=
  ∀ w : Word,
    ((decodeRecord w).opcode = .illegal ↔ ∃ n, illegalWith w n) ∧
    (∀ n, illegalWith w n → decodeRecord w = illegalRecord n) ∧
    (w.extractLsb 1 0 ≠ 0b11#2 → (decodeRecord w).opcode ∈ [Opcode.fld, .fsd, .unimplemented])

/-- A word is delegated in exactly the forty cases of R95 and R145; the record is then `UNIMP(n)` (R129). -/
def Obligations.UnimplementedExactlyWhenDelegated : Prop :=
  ∀ w : Word,
    ((decodeRecord w).opcode = .unimplemented ↔ ∃ n, delegatedWith w n) ∧
    (∀ n, delegatedWith w n → decodeRecord w = unimpRecord n)

/-- The reserved long space (R96, R124): `ILLEGAL(2)` whatever the bits above 4 are. -/
def Obligations.ReservedLongIsIllegal : Prop :=
  ∀ w : Word, w.extractLsb 4 0 = 0b11111#5 → decodeRecord w =
    { opcode := .illegal, length := 2#3, rd := 0#5, rs1 := 0#5, rs2 := 0#5, rs3 := 0#5, imm := 0#64, rm := 0#3 }

/-- LOAD-FP and STORE-FP with another `funct3` (R98). -/
def Obligations.FpLoadStoreWidthMap : Prop :=
  ∀ w : Word,
    (w.extractLsb 6 0 = 0b0000111#7 → (decodeRecord w).opcode =
      if w.extractLsb 14 12 = 0b010#3 then .flw else if w.extractLsb 14 12 = 0b011#3 then .fld else .illegal) ∧
    (w.extractLsb 6 0 = 0b0100111#7 → (decodeRecord w).opcode =
      if w.extractLsb 14 12 = 0b010#3 then .fsw else if w.extractLsb 14 12 = 0b011#3 then .fsd else .illegal) ∧
    (w.extractLsb 6 0 ∈ [0b0000111#7, 0b0100111#7] → w.extractLsb 14 12 ∉ [0b010#3, 0b011#3] →
      decodeRecord w = illegalRecord 4#3)

/-- Illegal AMO words (R203): exactly the three cases, and any other AMO word is an LR, an SC or an AMO. -/
def Obligations.AmoIllegalExactly : Prop :=
  ∀ w : Word, w.extractLsb 6 0 = 0b0101111#7 →
    (amoIllegal w → decodeRecord w = illegalRecord 4#3) ∧
    (¬ amoIllegal w → (decodeRecord w).opcode.isLr = true ∨ (decodeRecord w).opcode.isScOrAmo = true)

/-- Fused multiply-add words of another format (R229): `ILLEGAL(4)`, whatever the other bits are. -/
def Obligations.FmaIllegalFormats : Prop :=
  ∀ w : Word, w.extractLsb 6 0 ∈ [0b1000011#7, 0b1000111#7, 0b1001011#7, 0b1001111#7] →
    (w.extractLsb 26 25 ∈ [0b10#2, 0b11#2] → decodeRecord w = illegalRecord 4#3) ∧
    (w.extractLsb 26 25 ∉ [0b10#2, 0b11#2] → (decodeRecord w).opcode.isFma = true)

/-- Illegal single-precision OP-FP words: exactly the nine cases of R266; and every word of a format other than S and D. -/
def Obligations.OpFpSingleIllegal : Prop :=
  ∀ w : Word, w.extractLsb 6 0 = 0b1010011#7 →
    (w.extractLsb 26 25 = 0b00#2 →
      (decodeRecord w = illegalRecord 4#3 ↔
        w.extractLsb 31 27 ∈ [0b00110#5, 0b00111#5, 0b01001#5, 0b01010#5, 0b01100#5, 0b01101#5, 0b01110#5, 0b01111#5,
          0b10000#5, 0b10001#5, 0b10010#5, 0b10011#5, 0b10101#5, 0b10110#5, 0b10111#5, 0b11001#5, 0b11011#5, 0b11101#5,
          0b11111#5] ∨
        (w.extractLsb 31 25 = 0b0101100#7 ∧ w.extractLsb 24 20 ≠ 0#5) ∨
        (w.extractLsb 31 25 = 0b0010000#7 ∧ 3 ≤ (w.extractLsb 14 12).toNat) ∨
        (w.extractLsb 31 25 = 0b0010100#7 ∧ w.extractLsb 14 12 ∉ [0b000#3, 0b001#3]) ∨
        (w.extractLsb 31 25 = 0b1010000#7 ∧ w.extractLsb 14 12 ∉ [0b000#3, 0b001#3, 0b010#3]) ∨
        (w.extractLsb 31 25 ∈ [0b1100000#7, 0b1101000#7] ∧ 4 ≤ (w.extractLsb 24 20).toNat) ∨
        (w.extractLsb 31 25 = 0b1110000#7 ∧ (w.extractLsb 24 20 ≠ 0#5 ∨ w.extractLsb 14 12 ∉ [0b000#3, 0b001#3])) ∨
        (w.extractLsb 31 25 = 0b1111000#7 ∧ (w.extractLsb 24 20 ≠ 0#5 ∨ w.extractLsb 14 12 ≠ 0b000#3)) ∨
        (w.extractLsb 31 25 = 0b0100000#7 ∧ w.extractLsb 24 20 ≠ 0b00001#5))) ∧
    (w.extractLsb 26 25 ∈ [0b10#2, 0b11#2] → decodeRecord w = illegalRecord 4#3)

/-- The same of double precision (R306). -/
def Obligations.OpFpDoubleIllegal : Prop :=
  ∀ w : Word, w.extractLsb 6 0 = 0b1010011#7 → w.extractLsb 26 25 = 0b01#2 →
    (decodeRecord w = illegalRecord 4#3 ↔
      w.extractLsb 31 27 ∈ [0b00110#5, 0b00111#5, 0b01001#5, 0b01010#5, 0b01100#5, 0b01101#5, 0b01110#5, 0b01111#5,
        0b10000#5, 0b10001#5, 0b10010#5, 0b10011#5, 0b10101#5, 0b10110#5, 0b10111#5, 0b11001#5, 0b11011#5, 0b11101#5,
        0b11111#5] ∨
      (w.extractLsb 31 25 = 0b0101101#7 ∧ w.extractLsb 24 20 ≠ 0#5) ∨
      (w.extractLsb 31 25 = 0b0010001#7 ∧ 3 ≤ (w.extractLsb 14 12).toNat) ∨
      (w.extractLsb 31 25 = 0b0010101#7 ∧ w.extractLsb 14 12 ∉ [0b000#3, 0b001#3]) ∨
      (w.extractLsb 31 25 = 0b1010001#7 ∧ w.extractLsb 14 12 ∉ [0b000#3, 0b001#3, 0b010#3]) ∨
      (w.extractLsb 31 25 ∈ [0b1100001#7, 0b1101001#7] ∧ 4 ≤ (w.extractLsb 24 20).toNat) ∨
      (w.extractLsb 31 25 = 0b1110001#7 ∧ (w.extractLsb 24 20 ≠ 0#5 ∨ w.extractLsb 14 12 ∉ [0b000#3, 0b001#3])) ∨
      (w.extractLsb 31 25 = 0b1111001#7 ∧ (w.extractLsb 24 20 ≠ 0#5 ∨ w.extractLsb 14 12 ≠ 0b000#3)) ∨
      (w.extractLsb 31 25 = 0b0100001#7 ∧ w.extractLsb 24 20 ≠ 0#5))

/-- A double-precision OP-FP word decodes as the single-precision word with the same other fields, but for the tag's
precision, and but for the conversion between precisions, whose selector is another (R280). -/
def Obligations.DoublePrecisionMirrorsSingle : Prop :=
  ∀ w d : Word, w.extractLsb 6 0 = 0b1010011#7 → w.extractLsb 26 25 = 0b00#2 → d = w ||| 0x02000000#32 →
    (w.extractLsb 31 27 ≠ 0b01000#5 →
      ((decodeRecord w).opcode = .illegal ∧ decodeRecord d = decodeRecord w) ∨
      (doubleTag (decodeRecord w).opcode = some (decodeRecord d).opcode ∧
        (decodeRecord d).length = (decodeRecord w).length ∧ (decodeRecord d).rd = (decodeRecord w).rd ∧
        (decodeRecord d).rs1 = (decodeRecord w).rs1 ∧ (decodeRecord d).rs2 = (decodeRecord w).rs2 ∧
        (decodeRecord d).rm = (decodeRecord w).rm)) ∧
    (w.extractLsb 31 27 = 0b01000#5 →
      (w.extractLsb 24 20 = 0b00001#5 → (decodeRecord w).opcode = .fcvt_s_d) ∧
      (w.extractLsb 24 20 ≠ 0b00001#5 → decodeRecord w = illegalRecord 4#3) ∧
      (w.extractLsb 24 20 = 0b00000#5 → (decodeRecord d).opcode = .fcvt_d_s) ∧
      (w.extractLsb 24 20 ≠ 0b00000#5 → decodeRecord d = illegalRecord 4#3))

/-- `rm` is `funct3` for every fused multiply-add and OP-FP result (R93), and a fused multiply-add rejects no value of it:
another `funct3` changes `rm` alone, the undefined `imm` aside. -/
def Obligations.RoundingModeIsCopied : Prop :=
  ∀ w : Word,
    ((decodeRecord w).opcode.isFma = true ∨ (decodeRecord w).opcode.isOpFp = true →
      (decodeRecord w).rm = w.extractLsb 14 12) ∧
    ((decodeRecord w).opcode.isFma = true → ∀ v : Word, v &&& 0xFFFF8FFF#32 = w &&& 0xFFFF8FFF#32 →
      (decodeRecord v).opcode = (decodeRecord w).opcode ∧ (decodeRecord v).rd = (decodeRecord w).rd ∧
      (decodeRecord v).rs1 = (decodeRecord w).rs1 ∧ (decodeRecord v).rs2 = (decodeRecord w).rs2 ∧
      (decodeRecord v).rs3 = (decodeRecord w).rs3 ∧ (decodeRecord v).rm = v.extractLsb 14 12)

/-- The `imm` of an atomic is its two ordering bits (R90). -/
def Obligations.OrderingBitsAreCarried : Prop :=
  ∀ w : Word, (decodeRecord w).opcode.isLr = true ∨ (decodeRecord w).opcode.isScOrAmo = true →
    (decodeRecord w).imm = (w.extractLsb 26 25).setWidth 64 ∧ (decodeRecord w).aq = w.getLsbD 26 ∧
    (decodeRecord w).rl = w.getLsbD 25 ∧ (decodeRecord w).imm.toNat ≤ 3

/-- A field that the opcode does not define has the value `dontCare` gives the word and the field (R41); of the word only
the bits that the block may read count (R63). -/
def Obligations.UndefinedFieldsAreDontCare : Prop :=
  ∀ (w : Word) (f : OutField), (decodeRecord w).opcode.defines f = false →
    (decodeRecord w).field f = ((Config.dontCare (bitsRead w) f).setWidth f.width).setWidth 64

/-- The displacements (R85 to R89) of the loads and stores a word decodes to: the bits each is made of, the extraction it
is, and its range. -/
def Obligations.ImmediatesAndTheirRanges : Prop :=
  ∀ (w : Word) (r : Record), r = decodeRecord w →
    (r.opcode.isLoad = true → r.length = 4#3 →
      r.imm = (w.extractLsb 31 20).signExtend 64 ∧ r.imm = extract w [⟨31, 20⟩] .sext 0 ∧
      -2048 ≤ r.imm.toInt ∧ r.imm.toInt ≤ 2047) ∧
    (r.opcode.isStore = true → r.length = 4#3 →
      r.imm = (w.extractLsb 31 25 ++ w.extractLsb 11 7).signExtend 64 ∧
      r.imm = extract w [⟨31, 25⟩, ⟨11, 7⟩] .sext 0 ∧ -2048 ≤ r.imm.toInt ∧ r.imm.toInt ≤ 2047) ∧
    (r.opcode.isLoad = true ∨ r.opcode.isStore = true → w.extractLsb 1 0 = 0b00#2 →
      r.imm = (w.extractLsb 6 5 ++ w.extractLsb 12 10 ++ 0#3).setWidth 64 ∧
      r.imm = extract w [⟨6, 5⟩, ⟨12, 10⟩] .zext 3 ∧ r.imm.toNat ≤ 248 ∧ 8 ∣ r.imm.toNat) ∧
    (r.opcode.isLoad = true → w.extractLsb 1 0 = 0b10#2 →
      r.imm = (w.extractLsb 4 2 ++ w.extractLsb 12 12 ++ w.extractLsb 6 5 ++ 0#3).setWidth 64 ∧
      r.imm = extract w [⟨4, 2⟩, ⟨12, 12⟩, ⟨6, 5⟩] .zext 3 ∧ r.imm.toNat ≤ 504 ∧ 8 ∣ r.imm.toNat) ∧
    (r.opcode.isStore = true → w.extractLsb 1 0 = 0b10#2 →
      r.imm = (w.extractLsb 9 7 ++ w.extractLsb 12 10 ++ 0#3).setWidth 64 ∧
      r.imm = extract w [⟨9, 7⟩, ⟨12, 10⟩] .zext 3 ∧ r.imm.toNat ≤ 504 ∧ 8 ∣ r.imm.toNat)

/-- The extractor (R120 to R122): the first descriptor is most significant, a scale of `n` multiplies by 2^n, and the
marker makes the most significant selected bit the sign. -/
def Obligations.ExtractorMeetsItsContract : Prop :=
  ∀ (w : Word) (d : BitRange) (ds : List BitRange) (scale : Nat),
    (∀ e ∈ d :: ds, e.valid = true) → scale ≤ 3 → selectWidth (d :: ds) + scale ≤ 64 →
      (selectBits w (d :: ds)).toNat =
        (w.toNat / 2 ^ d.lo % 2 ^ (d.hi - d.lo + 1)) * 2 ^ selectWidth ds + (selectBits w ds).toNat ∧
      (extract w (d :: ds) .zext scale).toNat = (selectBits w (d :: ds)).toNat * 2 ^ scale ∧
      (extract w (d :: ds) .sext scale).toInt = (selectBits w (d :: ds)).toInt * 2 ^ scale

/-- The opcode enumeration has 86 values, and the block produces each of them for some word (R34). -/
def Obligations.EveryOpcodeIsProduced : Prop :=
  (∃ l : List Opcode, l.length = 86 ∧ l.Nodup ∧ ∀ o, o ∈ l) ∧ ∀ o : Opcode, ∃ w : Word, (decodeRecord w).opcode = o

/-- The size of the access of a memory tag, by `funct3` (R65, R98, R99; informative for the caller). -/
def Obligations.AccessWidthFollowsFunct3 : Prop :=
  ∀ w : Word, (decodeRecord w).opcode.isInstruction = true →
    (decodeRecord w).opcode.accessBytes =
      if w.extractLsb 1 0 ≠ 0b11#2 then 8
      else if w.extractLsb 6 0 ∈ [0b0000111#7, 0b0100111#7, 0b0101111#7] then
        (if w.extractLsb 14 12 = 0b010#3 then 4 else 8)
      else 0

/-! ### Encoding -/

/-- The six worked examples of 95_test_vectors.md Part 1, each word as the spec prints it. -/
def Obligations.WorkedExampleWords : Prop :=
  decode 0x00002000#32 = .instr (.cFld 8#5 8#5 0#64) ∧
  decode 0x00002402#32 = .instr (.cFldsp 8#5 0#64) ∧
  decode 0x100120AF#32 = .instr (.lrW 1#5 2#5 0#2) ∧
  decode 0x101120AF#32 = .illegal .lrRs2 ∧
  decode 0x003202D3#32 = .instr (.faddS 5#5 4#5 3#5 0#3) ∧
  decode 0xFFFFFFFF#32 = .instr .illegalLong

/-- Every well-formed instruction reads back from its encoding, with every operand at every value (R82 to R101). -/
def Obligations.DecodeOfEncode : Prop := ∀ i : Instr, i.wf = true → decode (encode i) = .instr i

/-- What decodes is well formed, and where the row fixes all but the operands its encoding is the word again, as far as
the block may read it (R63, R82, R83). -/
def Obligations.EncodeOfDecode : Prop :=
  ∀ (w : Word) (i : Instr), decode w = .instr i →
    i.wf = true ∧ (i = .illegalLong ∨ (decodeRecord w).opcode = .unimplemented ∨ encode i = bitsRead w)

/-- The decoder agrees with the opcode table (R105): a word decodes to an instruction of a row exactly if it matches the
row, so no word matches two rows, and a word that matches none is `ILLEGAL(4)`. -/
def Obligations.DecoderAgreesWithOpcodeTable : Prop :=
  ∀ w : Word,
    (∀ i : Instr, i.row.covers w = true ↔ ∃ j : Instr, decode w = .instr j ∧ j.row = i.row) ∧
    ((∀ i : Instr, i.row.covers w = false) → decodeRecord w = illegalRecord 4#3)

/-- The bits read (R63): words that agree on them have one record, undefined fields included. -/
def Obligations.UnreadBitsDoNotMatter : Prop :=
  (∀ w : Word, w.extractLsb 1 0 ≠ 0b11#2 → decodeRecord w = decodeRecord (w &&& 0x0000FFFF#32)) ∧
  (∀ w v : Word, w.extractLsb 4 0 = 0b11111#5 → v.extractLsb 4 0 = w.extractLsb 4 0 → decodeRecord v = decodeRecord w)

/-! ### The block as a whole -/

/-- Totality (R130, R320): the block never faults, and where the caller continues past every record it always answers one,
of length 2 or 4. -/
def Obligations.DecodeIsTotal : Prop :=
  ∀ (w : Word) (s : State),
    (∀ f, runWord w s ≠ .fault f) ∧ ((decodeRecord w).length = 2#3 ∨ (decodeRecord w).length = 4#3) ∧
    (s.policy = .continuePast → ∃ t, runWord w s = .next t ∧ t.out = decodeRecord w)

/-- The block holds no state (R30, R31): what stood on its ports before does not matter, and the record is a function of
the word alone. -/
def Obligations.BlockHoldsNoState : Prop :=
  (∀ (s : State) (r : Record) (v : Word), step { s with out := r, insn := v } = step s) ∧
  ∀ (w : Word) (s t : State), runWord w s = .next t → t.out = decodeRecord w

/-- Every word is decoded the same way in every mode (R331), and the caller goes on at the same pc (R353; where it traps on
an illegal record, R327, that it goes to the same handler from every mode is log entry 9's). -/
def Obligations.ModeDoesNotMatterToDecode : Prop :=
  ∀ (s t : State) (m : Mode), step s = .next t →
    ∃ t', step { s with mode := m } = .next t' ∧ t'.insn = t.insn ∧ t'.out = t.out ∧ t'.pc = t.pc ∧ t'.mem = t.mem

/-- Decoding changes nothing outside the block's outputs (R66), and the caller that continues goes on at the pc plus
`length`, after an `illegal` or `unimplemented` record too (R353; that the pc wraps at 2^64 is log entry 4's). -/
def Obligations.ContinuingStepChangesOutputsAndPc : Prop :=
  ∀ (s t : State), s.policy = .continuePast → step s = .next t →
    t = { s with insn := t.insn, out := t.out, pc := s.pc + t.out.length.setWidth 64 }

/-- Only an illegal record of a caller that traps writes the trap state, and no step writes memory, the policy or `mtvec`
(R60, R66, R322, R327; the two kinds of caller are log entry 7's, `mcause` in every mode log entry 9's). -/
def Obligations.OnlyIllegalTrapsWriteTrapState : Prop :=
  ∀ (s t : State), step s = .next t →
    t.mem = s.mem ∧ t.policy = s.policy ∧ t.mtvec = s.mtvec ∧
    ((t.mode = s.mode ∧ t.mstatus = s.mstatus ∧ t.mepc = s.mepc ∧ t.mcause = s.mcause ∧ t.mtval = s.mtval) ∨
     (s.policy = .trapOrRefuse ∧ t.out.opcode = .illegal ∧ t.mcause = Cause.illegalInstruction.code))

/-- The next pc of a decoded instruction is the pc plus its length, under either policy (R337; the wrap is log
entry 4's). -/
def Obligations.DecodedTagsDoNotTransferControl : Prop :=
  ∀ (s t : State), step s = .next t → t.out.opcode.isInstruction = true → t.pc = s.pc + t.out.length.setWidth 64

/-! ### The caller: fetch, traps, refusals -/

/-- A step runs the decoded instruction: with the bytes of a word at an aligned pc, the step is exec of the instruction
with the word on the input port, or the illegal path where no row matches (R61, R32). -/
def Obligations.StepRunsDecodedInstruction : Prop :=
  ∀ (s : State) (w : Word), s.pcAligned → bytesAt s.mem s.pc w →
    (∀ i, decode w = .instr i → step s = exec i (s.present w)) ∧
    (∀ why, decode w = .illegal why → step s = emitIllegal 4#3 (s.present w))

/-- An encoded instruction in memory runs: its own bytes at an aligned pc are enough, whatever follows them or nothing
(R61, R62, R63, R352; log entry 2 is what stands on the bits that were not fetched). -/
def Obligations.EncodedInstructionRuns : Prop :=
  ∀ (s : State) (i : Instr), i.wf = true → s.pcAligned →
    (∀ k : Nat, k < i.size → readByte s.mem (s.pc + BitVec.ofNat 64 k) = (encodeBytes i)[k]?) →
    ∃ w : Word, step s = exec i (s.present w) ∧ bitsRead w = encode i

/-- Two bytes are enough for a compressed or reserved long word (R62): the record is that of any word with this parcel
in its low half. -/
def Obligations.TwoBytesAreEnough : Prop :=
  ∀ (s : State) (b0 b1 : Byte) (w : Word), s.pcAligned → s.policy = .continuePast →
    readByte s.mem s.pc = some b0 → readByte s.mem (s.pc + 1#64) = some b1 → w.extractLsb 15 0 = b1 ++ b0 →
    (b0.extractLsb 1 0 ≠ 0b11#2 ∨ b0.extractLsb 4 0 = 0b11111#5) →
    ∃ t, step s = .next t ∧ t.out = decodeRecord w ∧ t.insn.extractLsb 15 0 = b1 ++ b0

/-- The fetch faults exactly if the word it needs cannot be had: not if its four bytes are there, nor if the two bytes of
a compressed or reserved long word are (R62, R64, R326; the faults' names and the missing bytes are log entry 5's). A step
that faults gives no record, so decode is not called. -/
def Obligations.FetchFaultsWithoutAWord : Prop :=
  ∀ s : State,
    (¬ s.pcAligned → step s = .fault .fetchMisaligned) ∧
    (s.pcAligned → (readByte s.mem s.pc = none ∨ readByte s.mem (s.pc + 1#64) = none) → step s = .fault .fetchAccess) ∧
    (s.pcAligned → ∀ b, readByte s.mem s.pc = some b → b.extractLsb 1 0 = 0b11#2 → b.extractLsb 4 0 ≠ 0b11111#5 →
      (readByte s.mem (s.pc + 2#64) = none ∨ readByte s.mem (s.pc + 3#64) = none) → step s = .fault .fetchAccess) ∧
    (∀ f, step s = .fault f → ¬ ∃ w, bytesAt s.mem s.pc w ∧ s.pcAligned) ∧
    (s.pcAligned → ∀ b0 b1, readByte s.mem s.pc = some b0 → readByte s.mem (s.pc + 1#64) = some b1 →
      (b0.extractLsb 1 0 ≠ 0b11#2 ∨ b0.extractLsb 4 0 = 0b11111#5) → ∀ f, step s ≠ .fault f)

/-- The input word is built little-endian (R61; that addresses wrap at 2^64 is log entry 4's). -/
def Obligations.InputWordIsLittleEndian : Prop :=
  ∀ (s t : State) (b0 b1 : Byte), step s = .next t →
    readByte s.mem s.pc = some b0 → readByte s.mem (s.pc + 1#64) = some b1 →
    t.insn.extractLsb 7 0 = b0 ∧ t.insn.extractLsb 15 8 = b1 ∧
    (t.out.length = 4#3 → readByte s.mem (s.pc + 2#64) = some (t.insn.extractLsb 23 16) ∧
      readByte s.mem (s.pc + 3#64) = some (t.insn.extractLsb 31 24))

/-- The caller that acts on `illegal` raises the exception of cause 2, with the word or the parcel as trap value (R322,
R327; that it is `mcause` and `mtval` that are written, from every mode, is log entry 9's, and that `mtval` has 64 bits
and holds the word zero-extended is log entry 15's). -/
def Obligations.IllegalRaisesIllegalInstruction : Prop :=
  ∀ (w : Word) (s : State), s.policy = .trapOrRefuse → (decodeRecord w).opcode = .illegal →
    ∃ t, runWord w s = .next t ∧ t.out = decodeRecord w ∧ t.mcause = 2#64 ∧
      ((decodeRecord w).length = 4#3 → t.mtval = w.setWidth 64) ∧
      ((decodeRecord w).length = 2#3 → t.mtval = (w.extractLsb 15 0).setWidth 64)

/-- The whole trap entry (R322, R327, informative there; the mode, that the machine-mode registers are written from every
mode, and the layout of `mtvec` are log entry 9's, the width of `mtval` and the zero-extension of the word log entry
15's). -/
def Obligations.TrapEntrySavesAndRedirects : Prop :=
  ∀ (w : Word) (s : State), s.policy = .trapOrRefuse → (decodeRecord w).opcode = .illegal →
    runWord w s = .next { s with
      insn := w, out := decodeRecord w, mepc := s.pc, mcause := 2#64, mtval := trapValue (decodeRecord w).length w,
      mstatus := { mie := false, mpie := s.mstatus.mie, mpp := s.mode }, mode := .machine,
      pc := s.mtvec &&& 0xFFFFFFFFFFFFFFFC#64 }

/-- The caller that acts on `unimplemented` refuses, and raises nothing (R323). -/
def Obligations.UnimplementedIsRefused : Prop :=
  ∀ (w : Word) (s : State), s.policy = .trapOrRefuse → (decodeRecord w).opcode = .unimplemented →
    runWord w s = .refused .unimplementedRecord

/-- What a caller that acts on records does, by the situations that 60_exceptions.md R339 tabulates. The table gives the
outcome; the rest is the model's: the entry of the exception (R327, log entries 9 and 15), and that a decoded tag ends
its step with the pc moved on by `length` (log entry 10), modulo 2^64 (log entry 4). -/
def Obligations.ActingCallerFollowsTable : Prop :=
  ∀ (w : Word) (s : State), s.policy = .trapOrRefuse →
    match callerAction (decodeRecord w) w with
    | .raise c tval => runWord w s = .next (takeException c tval { s with insn := w, out := decodeRecord w })
    | .refuse => runWord w s = .refused .unimplementedRecord
    | .execute => runWord w s = .next { s with
        insn := w, out := decodeRecord w, pc := s.pc + (decodeRecord w).length.setWidth 64 }

/-! ### Invariants, reset, loading -/

/-- The invariant holds after reset (R30, R49); the mode is machine mode and interrupts are masked (R350, general
knowledge there). The reset values are log entries 3, 4, 5 and 8's. -/
def Obligations.ResetMeetsInvariant : Prop :=
  State.reset.Inv ∧ State.reset.mode = .machine ∧ State.reset.mstatus.mie = false

/-- Every step keeps the invariant: memory in canonical form, the pc 2-byte aligned, and the output ports carrying the
record of the word on the input port. -/
def Obligations.StepKeepsInvariant : Prop := ∀ s t : State, s.Inv → step s = .next t → t.Inv

/-- A placed word is what the next step runs, and placing it changes no other byte (log entry 6). -/
def Obligations.PlacedWordRunsNext : Prop :=
  ∀ (s : State) (nbits w : Nat), s.pcAligned →
    (s.withFetchWord nbits w).pc = s.pc ∧
    step (s.withFetchWord nbits w) = runWord (BitVec.ofNat 32 (w % 2 ^ nbits)) (s.withFetchWord nbits w) ∧
    (∀ a : Addr, a ∉ [s.pc, s.pc + 1#64, s.pc + 2#64, s.pc + 3#64] →
      readByte (s.withFetchWord nbits w).mem a = readByte s.mem a) ∧
    (Memory.wf s.mem = true → Memory.wf (s.withFetchWord nbits w).mem = true)
end

