-- ==== Sys2Proof/Laws/State.lean ====
section
/-! SUPPORT. One lemma per field for each update of the state, true by unfolding, so that no later proof unfolds a
record update. -/

namespace Sys2Proof.Machine

variable (s : State) (w : Word) (c : Cause) (tval : BitVec 64) (nbits k : Nat)

@[simp] theorem present_insn : (s.present w).insn = w := rfl
@[simp] theorem present_out : (s.present w).out = s.out := rfl
@[simp] theorem present_pc : (s.present w).pc = s.pc := rfl
@[simp] theorem present_mem : (s.present w).mem = s.mem := rfl
@[simp] theorem present_policy : (s.present w).policy = s.policy := rfl
@[simp] theorem present_mode : (s.present w).mode = s.mode := rfl
@[simp] theorem present_mstatus : (s.present w).mstatus = s.mstatus := rfl
@[simp] theorem present_mepc : (s.present w).mepc = s.mepc := rfl
@[simp] theorem present_mcause : (s.present w).mcause = s.mcause := rfl
@[simp] theorem present_mtval : (s.present w).mtval = s.mtval := rfl
@[simp] theorem present_mtvec : (s.present w).mtvec = s.mtvec := rfl

@[simp] theorem takeException_insn : (takeException c tval s).insn = s.insn := rfl
@[simp] theorem takeException_out : (takeException c tval s).out = s.out := rfl
@[simp] theorem takeException_pc : (takeException c tval s).pc = vectorBase s.mtvec := rfl
@[simp] theorem takeException_mem : (takeException c tval s).mem = s.mem := rfl
@[simp] theorem takeException_policy : (takeException c tval s).policy = s.policy := rfl
@[simp] theorem takeException_mode : (takeException c tval s).mode = .machine := rfl
@[simp] theorem takeException_mie : (takeException c tval s).mstatus.mie = false := rfl
@[simp] theorem takeException_mpie : (takeException c tval s).mstatus.mpie = s.mstatus.mie := rfl
@[simp] theorem takeException_mpp : (takeException c tval s).mstatus.mpp = s.mode := rfl
@[simp] theorem takeException_mepc : (takeException c tval s).mepc = s.pc := rfl
@[simp] theorem takeException_mcause : (takeException c tval s).mcause = c.code := rfl
@[simp] theorem takeException_mtval : (takeException c tval s).mtval = tval := rfl
@[simp] theorem takeException_mtvec : (takeException c tval s).mtvec = s.mtvec := rfl

@[simp] theorem placeWord_insn : (placeWord s nbits k).insn = s.insn := rfl
@[simp] theorem placeWord_out : (placeWord s nbits k).out = s.out := rfl
@[simp] theorem placeWord_pc : (placeWord s nbits k).pc = s.pc &&& 0xFFFFFFFFFFFFFFFE#64 := rfl
@[simp] theorem placeWord_policy : (placeWord s nbits k).policy = s.policy := rfl
@[simp] theorem placeWord_mode : (placeWord s nbits k).mode = s.mode := rfl
@[simp] theorem placeWord_mstatus : (placeWord s nbits k).mstatus = s.mstatus := rfl
@[simp] theorem placeWord_mepc : (placeWord s nbits k).mepc = s.mepc := rfl
@[simp] theorem placeWord_mcause : (placeWord s nbits k).mcause = s.mcause := rfl
@[simp] theorem placeWord_mtval : (placeWord s nbits k).mtval = s.mtval := rfl
@[simp] theorem placeWord_mtvec : (placeWord s nbits k).mtvec = s.mtvec := rfl

end Sys2Proof.Machine
end

