-- ==== Sys2Proof/Laws/Ops.lean ====
section
/-! SUPPORT. What each shared operation can do, said once: the three ways an instruction ends, the fetch, and one word
run from a state. -/

namespace Sys2Proof.Machine

/-- Driving a record answers one next state, in which only the output ports and the pc differ. -/
theorem emit_eq (r : Record) (s : State) :
    emit r s = .next { s with out := r, pc := s.pc + r.length.setWidth 64 } := rfl

theorem emit_next (r : Record) (s t : State) (h : emit r s = .next t) :
    t = { s with out := r, pc := s.pc + r.length.setWidth 64 } := (Host.Outcome.next.inj h).symm

/-- The illegal path of a caller that continues. -/
theorem emitIllegal_continuePast (n : BitVec 3) (s : State) (h : s.policy = .continuePast) :
    emitIllegal n s = .next { s with out := illegalRecord n, pc := s.pc + n.setWidth 64 } := by
  unfold emitIllegal
  split
  · rfl
  · next hp => cases h.symm.trans hp

/-- The illegal path of a caller that traps. -/
theorem emitIllegal_trapOrRefuse (n : BitVec 3) (s : State) (h : s.policy = .trapOrRefuse) :
    emitIllegal n s =
      .next (takeException .illegalInstruction (trapValue n s.insn) { s with out := illegalRecord n }) := by
  simp only [emitIllegal, h]

/-- The illegal path always answers a next state, with `ILLEGAL(n)` on the output ports. -/
theorem emitIllegal_next (n : BitVec 3) (s : State) : ∃ t, emitIllegal n s = .next t ∧ t.out = illegalRecord n ∧
    t.insn = s.insn ∧ t.mem = s.mem ∧ t.policy = s.policy ∧ t.mtvec = s.mtvec := by
  rcases h : s.policy
  · exact ⟨_, emitIllegal_continuePast n s h, rfl, rfl, rfl, h, rfl⟩
  · exact ⟨_, emitIllegal_trapOrRefuse n s h, rfl, rfl, rfl, h, rfl⟩

/-- The unimplemented path of a caller that continues. -/
theorem emitUnimplemented_continuePast (n : BitVec 3) (s : State) (h : s.policy = .continuePast) :
    emitUnimplemented n s = .next { s with out := unimpRecord n, pc := s.pc + n.setWidth 64 } := by
  unfold emitUnimplemented
  split
  · rfl
  · next hp => cases h.symm.trans hp

/-- The unimplemented path of a caller that refuses. -/
theorem emitUnimplemented_trapOrRefuse (n : BitVec 3) (s : State) (h : s.policy = .trapOrRefuse) :
    emitUnimplemented n s = .refused .unimplementedRecord := by
  simp only [emitUnimplemented, h]

/-- The unimplemented path answers a next state for a caller that continues only. -/
theorem emitUnimplemented_next (n : BitVec 3) (s t : State) (h : emitUnimplemented n s = .next t) :
    s.policy = .continuePast ∧ t = { s with out := unimpRecord n, pc := s.pc + n.setWidth 64 } := by
  cases hp : s.policy with
  | continuePast =>
    rw [emitUnimplemented_continuePast n s hp] at h
    exact ⟨rfl, hp ▸ (Host.Outcome.next.inj h).symm⟩
  | trapOrRefuse =>
    rw [emitUnimplemented_trapOrRefuse n s hp] at h
    cases h

/-- A fetch from an odd pc supplies no word. -/
theorem fetch_misaligned (s : State) (h : s.pc.extractLsb' 0 1 ≠ 0#1) : fetch s = .error .fetchMisaligned := by
  simp only [fetch, if_pos h]

/-- A fetch from an aligned pc, by the two parcels there. -/
theorem fetch_aligned (s : State) (h : s.pc.extractLsb' 0 1 = 0#1) : fetch s =
    match parcelAt s.mem s.pc, parcelAt s.mem (s.pc + 2#64) with
    | none, _ => .error .fetchAccess
    | some lo, some hi => .ok (hi ++ lo)
    | some lo, none => if needsFourBytes lo then .error .fetchAccess else .ok (Config.upperHalf s.pc ++ lo) := by
  exact if_neg (not_not_intro h)

/-- A step whose fetch supplies a word runs that word. -/
theorem stepOnce_of_fetch (s : State) (w : Word) (h : fetch s = .ok w) : stepOnce s = runWord w s := by
  simp only [stepOnce, h]

/-- A word of a row runs the row's instruction. -/
theorem runWord_instr (w : Word) (i : Instr) (s : State) (h : decode w = .instr i) :
    runWord w s = exec i (s.present w) := by
  simp only [runWord, h]

/-- A word of no row is answered on the illegal path. -/
theorem runWord_illegal (w : Word) (c : IllegalCase) (s : State) (h : decode w = .illegal c) :
    runWord w s = emitIllegal 4#3 (s.present w) := by
  simp only [runWord, h]

end Sys2Proof.Machine
end

