-- ==== Sys2Proof/Laws/Exec.lean ====
section
/-! SUPPORT. Everything exec can do, said once over all the constructors. -/

namespace Sys2Proof.Machine

/-- A legal length and an instruction tag. -/
def Record.decoded (r : Record) : Prop := (r.length = 2#3 ∨ r.length = 4#3) ∧ r.opcode.isInstruction = true

/-- exec drives a record that depends on the instruction alone, or takes one of the two shared paths. -/
theorem exec_cases (i : Instr) :
    (∃ r : Record, r.decoded ∧ r.length = BitVec.ofNat 3 i.size ∧ ∀ s, exec i s = emit r s) ∨
    (i = .illegalLong ∧ ∀ s, exec i s = emitIllegal 2#3 s) ∨
    ((i.size = 2 ∨ i.size = 4) ∧ ∀ s, exec i s = emitUnimplemented (BitVec.ofNat 3 i.size) s) := by
  cases i <;> first
    | exact .inl ⟨_, ⟨.inl rfl, rfl⟩, rfl, fun _ => rfl⟩
    | exact .inl ⟨_, ⟨.inr rfl, rfl⟩, rfl, fun _ => rfl⟩
    | exact .inr (.inl ⟨rfl, fun _ => rfl⟩)
    | exact .inr (.inr ⟨.inl rfl, fun _ => rfl⟩)
    | exact .inr (.inr ⟨.inr rfl, fun _ => rfl⟩)

/-- exec never faults: the block raises nothing (R320). -/
theorem exec_ne_fault (i : Instr) (s : State) (f : Fault) : exec i s ≠ .fault f := by
  rcases exec_cases i with ⟨r, -, -, h⟩ | ⟨-, h⟩ | ⟨-, h⟩ <;> rw [h]
  · simp [emit]
  · obtain ⟨t, ht, -⟩ := emitIllegal_next 2#3 s
    simp [ht]
  · rcases hp : s.policy
    · simp [emitUnimplemented_continuePast _ s hp]
    · simp [emitUnimplemented_trapOrRefuse _ s hp]

end Sys2Proof.Machine
end

