-- ==== Sys2Proof/Laws/Encoding.lean ====
section
/-! SUPPORT. The fields of an encoded word: each format as a sum of its fields times powers of two, each field as a
quotient and a remainder of the word, and from these, by linear arithmetic, every field read back (spec 30_encoding.md
R82, R83). -/

namespace Sys2Proof

/-- An append as a number. -/
theorem toNat_append_add {n m : Nat} (x : BitVec n) (y : BitVec m) :
    (x ++ y).toNat = x.toNat * 2 ^ m + y.toNat := by
  rw [BitVec.toNat_append, ← Nat.shiftLeft_add_eq_or_of_lt y.isLt, Nat.shiftLeft_eq]

/-- A slice as a number. -/
theorem toNat_slice {n : Nat} (x : BitVec n) (lo k : Nat) :
    (x.extractLsb' lo k).toNat = x.toNat / 2 ^ lo % 2 ^ k := by
  rw [BitVec.extractLsb'_toNat, Nat.shiftRight_eq_div_pow]

theorem toNat_opcode7 (w : Word) : (opcode7 w).toNat = w.toNat / 1 % 128 := toNat_slice w 0 7
theorem toNat_fieldRd (w : Word) : (fieldRd w).toNat = w.toNat / 128 % 32 := toNat_slice w 7 5
theorem toNat_funct3 (w : Word) : (funct3 w).toNat = w.toNat / 4096 % 8 := toNat_slice w 12 3
theorem toNat_fieldRs1 (w : Word) : (fieldRs1 w).toNat = w.toNat / 32768 % 32 := toNat_slice w 15 5
theorem toNat_fieldRs2 (w : Word) : (fieldRs2 w).toNat = w.toNat / 1048576 % 32 := toNat_slice w 20 5
theorem toNat_funct7 (w : Word) : (funct7 w).toNat = w.toNat / 33554432 % 128 := toNat_slice w 25 7
theorem toNat_funct5 (w : Word) : (funct5 w).toNat = w.toNat / 134217728 % 32 := toNat_slice w 27 5
theorem toNat_fmt2 (w : Word) : (fmt2 w).toNat = w.toNat / 33554432 % 4 := toNat_slice w 25 2
theorem toNat_quadrant (w : Word) : (quadrant w).toNat = w.toNat / 1 % 4 := toNat_slice w 0 2
theorem toNat_cfunct3 (w : Word) : (cfunct3 w).toNat = w.toNat / 8192 % 8 := toNat_slice w 13 3
theorem toNat_lengthPrefix (w : Word) : (lengthPrefix w).toNat = w.toNat / 1 % 32 := toNat_slice w 0 5
theorem toNat_fieldRs2C (w : Word) : (fieldRs2C w).toNat = w.toNat / 4 % 32 := toNat_slice w 2 5

/-- A 5-bit index that a compressed field can name is 8 more than its low three bits (R84). -/
theorem compressedReg_creg (r : Reg) (h : wfCompressedReg r = true) : compressedReg (creg r) = r := by
  simp only [wfCompressedReg, Bool.and_eq_true, decide_eq_true_eq] at h
  apply BitVec.eq_of_toNat_eq
  simp only [compressedReg, creg, BitVec.toNat_add, BitVec.toNat_setWidth, toNat_slice, BitVec.toNat_ofNat]
  omega

theorem toNat_encR (f7 : BitVec 7) (rs2 : Reg) (rs1 : Reg) (f3 : BitVec 3) (rd : Reg) (op : BitVec 7) :
    (encR f7 rs2 rs1 f3 rd op).toNat =
      f7.toNat * 33554432 + rs2.toNat * 1048576 + rs1.toNat * 32768 + f3.toNat * 4096 + rd.toNat * 128 + op.toNat :=
          by
  simp only [encR, BitVec.toNat_setWidth, toNat_append_add, Nat.reducePow]
  omega

theorem toNat_encR4 (rs3 : Reg) (fmt : BitVec 2) (rs2 : Reg) (rs1 : Reg) (f3 : BitVec 3) (rd : Reg) (op : BitVec 7) :
    (encR4 rs3 fmt rs2 rs1 f3 rd op).toNat =
      rs3.toNat * 134217728 + fmt.toNat * 33554432 + rs2.toNat * 1048576 + rs1.toNat * 32768 + f3.toNat * 4096 +
          rd.toNat * 128 + op.toNat := by
  simp only [encR4, BitVec.toNat_setWidth, toNat_append_add, Nat.reducePow]
  omega

theorem toNat_encI (imm : Imm) (rs1 : Reg) (f3 : BitVec 3) (rd : Reg) (op : BitVec 7) :
    (encI imm rs1 f3 rd op).toNat =
      (imm.toNat % 4096) * 1048576 + rs1.toNat * 32768 + f3.toNat * 4096 + rd.toNat * 128 + op.toNat := by
  simp only [encI, BitVec.toNat_setWidth, toNat_append_add, toNat_slice, Nat.reducePow]
  omega

theorem toNat_encS (imm : Imm) (rs2 : Reg) (rs1 : Reg) (f3 : BitVec 3) (op : BitVec 7) :
    (encS imm rs2 rs1 f3 op).toNat =
      (imm.toNat / 32 % 128) * 33554432 + rs2.toNat * 1048576 + rs1.toNat * 32768 + f3.toNat * 4096 + (imm.toNat %
          32) * 128 + op.toNat := by
  simp only [encS, BitVec.toNat_setWidth, toNat_append_add, toNat_slice, Nat.reducePow, Nat.pow_zero, Nat.div_one]
  have h0 := Nat.mod_lt (imm.toNat / 32) (show 128 > 0 by decide)
  have h1 := Nat.mod_lt (imm.toNat) (show 32 > 0 by decide)
  generalize imm.toNat / 32 % 128 = x0 at *
  generalize imm.toNat % 32 = x1 at *
  omega

theorem toNat_encCL (f3 : BitVec 3) (imm : Imm) (rs1 : Reg) (r : Reg) :
    (encCL f3 imm rs1 r).toNat =
      f3.toNat * 8192 + (imm.toNat / 8 % 8) * 1024 + (rs1.toNat % 8) * 128 + (imm.toNat / 64 % 4) * 32 + (r.toNat %
          8) * 4 := by
  simp only [encCL, creg, BitVec.toNat_setWidth, toNat_append_add, toNat_slice, BitVec.toNat_ofNat, Nat.reducePow,
    Nat.pow_zero, Nat.div_one]
  have h0 := Nat.mod_lt (imm.toNat / 8) (show 8 > 0 by decide)
  have h1 := Nat.mod_lt (imm.toNat / 64) (show 4 > 0 by decide)
  have h2 := Nat.mod_lt (rs1.toNat) (show 8 > 0 by decide)
  have h3 := Nat.mod_lt (r.toNat) (show 8 > 0 by decide)
  generalize imm.toNat / 8 % 8 = x0 at *
  generalize imm.toNat / 64 % 4 = x1 at *
  generalize rs1.toNat % 8 = x2 at *
  generalize r.toNat % 8 = x3 at *
  omega

theorem toNat_encCI (f3 : BitVec 3) (imm : Imm) (rd : Reg) :
    (encCI f3 imm rd).toNat =
      f3.toNat * 8192 + (imm.toNat / 32 % 2) * 4096 + rd.toNat * 128 + (imm.toNat / 8 % 4) * 32 + (imm.toNat / 64 %
          8) * 4 + 2 := by
  simp only [encCI, BitVec.toNat_setWidth, toNat_append_add, toNat_slice, BitVec.toNat_ofNat, Nat.reducePow]
  have h0 := Nat.mod_lt (imm.toNat / 32) (show 2 > 0 by decide)
  have h1 := Nat.mod_lt (imm.toNat / 8) (show 4 > 0 by decide)
  have h2 := Nat.mod_lt (imm.toNat / 64) (show 8 > 0 by decide)
  generalize imm.toNat / 32 % 2 = x0 at *
  generalize imm.toNat / 8 % 4 = x1 at *
  generalize imm.toNat / 64 % 8 = x2 at *
  omega

theorem toNat_encCSS (f3 : BitVec 3) (imm : Imm) (rs2 : Reg) :
    (encCSS f3 imm rs2).toNat =
      f3.toNat * 8192 + (imm.toNat / 8 % 8) * 1024 + (imm.toNat / 64 % 8) * 128 + rs2.toNat * 4 + 2 := by
  simp only [encCSS, BitVec.toNat_setWidth, toNat_append_add, toNat_slice, BitVec.toNat_ofNat, Nat.reducePow]
  have h0 := Nat.mod_lt (imm.toNat / 8) (show 8 > 0 by decide)
  have h1 := Nat.mod_lt (imm.toNat / 64) (show 8 > 0 by decide)
  generalize imm.toNat / 8 % 8 = x0 at *
  generalize imm.toNat / 64 % 8 = x1 at *
  omega

theorem toNat_encPair (f3 : BitVec 3) (q : BitVec 2) :
    (encPair f3 q).toNat =
      f3.toNat * 8192 + q.toNat := by
  simp only [encPair, BitVec.toNat_setWidth, toNat_append_add, BitVec.toNat_ofNat, Nat.reducePow]
  omega

theorem toNat_encMajor (op : BitVec 7) :
    (encMajor op).toNat =
      op.toNat := by
  simp only [encMajor, BitVec.toNat_setWidth, Nat.reducePow]
  omega

@[simp] theorem opcode7_encR (f7 : BitVec 7) (rs2 : Reg) (rs1 : Reg) (f3 : BitVec 3) (rd : Reg) (op : BitVec 7) :
    opcode7 (encR f7 rs2 rs1 f3 rd op) = op := by
  apply BitVec.eq_of_toNat_eq
  simp only [toNat_opcode7, toNat_encR]
  omega

@[simp] theorem fieldRd_encR (f7 : BitVec 7) (rs2 : Reg) (rs1 : Reg) (f3 : BitVec 3) (rd : Reg) (op : BitVec 7) :
    fieldRd (encR f7 rs2 rs1 f3 rd op) = rd := by
  apply BitVec.eq_of_toNat_eq
  simp only [toNat_fieldRd, toNat_encR]
  omega

@[simp] theorem funct3_encR (f7 : BitVec 7) (rs2 : Reg) (rs1 : Reg) (f3 : BitVec 3) (rd : Reg) (op : BitVec 7) :
    funct3 (encR f7 rs2 rs1 f3 rd op) = f3 := by
  apply BitVec.eq_of_toNat_eq
  simp only [toNat_funct3, toNat_encR]
  omega

@[simp] theorem fieldRs1_encR (f7 : BitVec 7) (rs2 : Reg) (rs1 : Reg) (f3 : BitVec 3) (rd : Reg) (op : BitVec 7) :
    fieldRs1 (encR f7 rs2 rs1 f3 rd op) = rs1 := by
  apply BitVec.eq_of_toNat_eq
  simp only [toNat_fieldRs1, toNat_encR]
  omega

@[simp] theorem fieldRs2_encR (f7 : BitVec 7) (rs2 : Reg) (rs1 : Reg) (f3 : BitVec 3) (rd : Reg) (op : BitVec 7) :
    fieldRs2 (encR f7 rs2 rs1 f3 rd op) = rs2 := by
  apply BitVec.eq_of_toNat_eq
  simp only [toNat_fieldRs2, toNat_encR]
  omega

@[simp] theorem funct7_encR (f7 : BitVec 7) (rs2 : Reg) (rs1 : Reg) (f3 : BitVec 3) (rd : Reg) (op : BitVec 7) :
    funct7 (encR f7 rs2 rs1 f3 rd op) = f7 := by
  apply BitVec.eq_of_toNat_eq
  simp only [toNat_funct7, toNat_encR]
  omega

@[simp] theorem opcode7_encR4 (rs3 : Reg) (fmt : BitVec 2) (rs2 : Reg) (rs1 : Reg) (f3 : BitVec 3) (rd : Reg) (op :
    BitVec 7) :
    opcode7 (encR4 rs3 fmt rs2 rs1 f3 rd op) = op := by
  apply BitVec.eq_of_toNat_eq
  simp only [toNat_opcode7, toNat_encR4]
  omega

@[simp] theorem fieldRd_encR4 (rs3 : Reg) (fmt : BitVec 2) (rs2 : Reg) (rs1 : Reg) (f3 : BitVec 3) (rd : Reg) (op :
    BitVec 7) :
    fieldRd (encR4 rs3 fmt rs2 rs1 f3 rd op) = rd := by
  apply BitVec.eq_of_toNat_eq
  simp only [toNat_fieldRd, toNat_encR4]
  omega

@[simp] theorem funct3_encR4 (rs3 : Reg) (fmt : BitVec 2) (rs2 : Reg) (rs1 : Reg) (f3 : BitVec 3) (rd : Reg) (op :
    BitVec 7) :
    funct3 (encR4 rs3 fmt rs2 rs1 f3 rd op) = f3 := by
  apply BitVec.eq_of_toNat_eq
  simp only [toNat_funct3, toNat_encR4]
  omega

@[simp] theorem fieldRs1_encR4 (rs3 : Reg) (fmt : BitVec 2) (rs2 : Reg) (rs1 : Reg) (f3 : BitVec 3) (rd : Reg) (op :
    BitVec 7) :
    fieldRs1 (encR4 rs3 fmt rs2 rs1 f3 rd op) = rs1 := by
  apply BitVec.eq_of_toNat_eq
  simp only [toNat_fieldRs1, toNat_encR4]
  omega

@[simp] theorem fieldRs2_encR4 (rs3 : Reg) (fmt : BitVec 2) (rs2 : Reg) (rs1 : Reg) (f3 : BitVec 3) (rd : Reg) (op :
    BitVec 7) :
    fieldRs2 (encR4 rs3 fmt rs2 rs1 f3 rd op) = rs2 := by
  apply BitVec.eq_of_toNat_eq
  simp only [toNat_fieldRs2, toNat_encR4]
  omega

@[simp] theorem funct5_encR4 (rs3 : Reg) (fmt : BitVec 2) (rs2 : Reg) (rs1 : Reg) (f3 : BitVec 3) (rd : Reg) (op :
    BitVec 7) :
    funct5 (encR4 rs3 fmt rs2 rs1 f3 rd op) = rs3 := by
  apply BitVec.eq_of_toNat_eq
  simp only [toNat_funct5, toNat_encR4]
  omega

@[simp] theorem fmt2_encR4 (rs3 : Reg) (fmt : BitVec 2) (rs2 : Reg) (rs1 : Reg) (f3 : BitVec 3) (rd : Reg) (op :
    BitVec 7) :
    fmt2 (encR4 rs3 fmt rs2 rs1 f3 rd op) = fmt := by
  apply BitVec.eq_of_toNat_eq
  simp only [toNat_fmt2, toNat_encR4]
  omega

@[simp] theorem opcode7_encI (imm : Imm) (rs1 : Reg) (f3 : BitVec 3) (rd : Reg) (op : BitVec 7) :
    opcode7 (encI imm rs1 f3 rd op) = op := by
  apply BitVec.eq_of_toNat_eq
  simp only [toNat_opcode7, toNat_encI]
  have h0 := Nat.mod_lt (imm.toNat) (show 4096 > 0 by decide)
  generalize imm.toNat % 4096 = x0 at *
  omega

@[simp] theorem fieldRd_encI (imm : Imm) (rs1 : Reg) (f3 : BitVec 3) (rd : Reg) (op : BitVec 7) :
    fieldRd (encI imm rs1 f3 rd op) = rd := by
  apply BitVec.eq_of_toNat_eq
  simp only [toNat_fieldRd, toNat_encI]
  have h0 := Nat.mod_lt (imm.toNat) (show 4096 > 0 by decide)
  generalize imm.toNat % 4096 = x0 at *
  omega

@[simp] theorem funct3_encI (imm : Imm) (rs1 : Reg) (f3 : BitVec 3) (rd : Reg) (op : BitVec 7) :
    funct3 (encI imm rs1 f3 rd op) = f3 := by
  apply BitVec.eq_of_toNat_eq
  simp only [toNat_funct3, toNat_encI]
  have h0 := Nat.mod_lt (imm.toNat) (show 4096 > 0 by decide)
  generalize imm.toNat % 4096 = x0 at *
  omega

@[simp] theorem fieldRs1_encI (imm : Imm) (rs1 : Reg) (f3 : BitVec 3) (rd : Reg) (op : BitVec 7) :
    fieldRs1 (encI imm rs1 f3 rd op) = rs1 := by
  apply BitVec.eq_of_toNat_eq
  simp only [toNat_fieldRs1, toNat_encI]
  have h0 := Nat.mod_lt (imm.toNat) (show 4096 > 0 by decide)
  generalize imm.toNat % 4096 = x0 at *
  omega

@[simp] theorem opcode7_encS (imm : Imm) (rs2 : Reg) (rs1 : Reg) (f3 : BitVec 3) (op : BitVec 7) :
    opcode7 (encS imm rs2 rs1 f3 op) = op := by
  apply BitVec.eq_of_toNat_eq
  simp only [toNat_opcode7, toNat_encS]
  have h0 := Nat.mod_lt (imm.toNat / 32) (show 128 > 0 by decide)
  have h1 := Nat.mod_lt (imm.toNat) (show 32 > 0 by decide)
  generalize imm.toNat / 32 % 128 = x0 at *
  generalize imm.toNat % 32 = x1 at *
  omega

@[simp] theorem funct3_encS (imm : Imm) (rs2 : Reg) (rs1 : Reg) (f3 : BitVec 3) (op : BitVec 7) :
    funct3 (encS imm rs2 rs1 f3 op) = f3 := by
  apply BitVec.eq_of_toNat_eq
  simp only [toNat_funct3, toNat_encS]
  have h0 := Nat.mod_lt (imm.toNat / 32) (show 128 > 0 by decide)
  have h1 := Nat.mod_lt (imm.toNat) (show 32 > 0 by decide)
  generalize imm.toNat / 32 % 128 = x0 at *
  generalize imm.toNat % 32 = x1 at *
  omega

@[simp] theorem fieldRs1_encS (imm : Imm) (rs2 : Reg) (rs1 : Reg) (f3 : BitVec 3) (op : BitVec 7) :
    fieldRs1 (encS imm rs2 rs1 f3 op) = rs1 := by
  apply BitVec.eq_of_toNat_eq
  simp only [toNat_fieldRs1, toNat_encS]
  have h0 := Nat.mod_lt (imm.toNat / 32) (show 128 > 0 by decide)
  have h1 := Nat.mod_lt (imm.toNat) (show 32 > 0 by decide)
  generalize imm.toNat / 32 % 128 = x0 at *
  generalize imm.toNat % 32 = x1 at *
  omega

@[simp] theorem fieldRs2_encS (imm : Imm) (rs2 : Reg) (rs1 : Reg) (f3 : BitVec 3) (op : BitVec 7) :
    fieldRs2 (encS imm rs2 rs1 f3 op) = rs2 := by
  apply BitVec.eq_of_toNat_eq
  simp only [toNat_fieldRs2, toNat_encS]
  have h0 := Nat.mod_lt (imm.toNat / 32) (show 128 > 0 by decide)
  have h1 := Nat.mod_lt (imm.toNat) (show 32 > 0 by decide)
  generalize imm.toNat / 32 % 128 = x0 at *
  generalize imm.toNat % 32 = x1 at *
  omega

@[simp] theorem cfunct3_encCL (f3 : BitVec 3) (imm : Imm) (rs1 : Reg) (r : Reg) :
    cfunct3 (encCL f3 imm rs1 r) = f3 := by
  apply BitVec.eq_of_toNat_eq
  simp only [toNat_cfunct3, toNat_encCL]
  have h0 := Nat.mod_lt (imm.toNat / 8) (show 8 > 0 by decide)
  have h1 := Nat.mod_lt (imm.toNat / 64) (show 4 > 0 by decide)
  have h2 := Nat.mod_lt (rs1.toNat) (show 8 > 0 by decide)
  have h3 := Nat.mod_lt (r.toNat) (show 8 > 0 by decide)
  generalize imm.toNat / 8 % 8 = x0 at *
  generalize imm.toNat / 64 % 4 = x1 at *
  generalize rs1.toNat % 8 = x2 at *
  generalize r.toNat % 8 = x3 at *
  omega

@[simp] theorem cfunct3_encCI (f3 : BitVec 3) (imm : Imm) (rd : Reg) : cfunct3 (encCI f3 imm rd) = f3 := by
  apply BitVec.eq_of_toNat_eq
  simp only [toNat_cfunct3, toNat_encCI]
  have h0 := Nat.mod_lt (imm.toNat / 32) (show 2 > 0 by decide)
  have h1 := Nat.mod_lt (imm.toNat / 8) (show 4 > 0 by decide)
  have h2 := Nat.mod_lt (imm.toNat / 64) (show 8 > 0 by decide)
  generalize imm.toNat / 32 % 2 = x0 at *
  generalize imm.toNat / 8 % 4 = x1 at *
  generalize imm.toNat / 64 % 8 = x2 at *
  omega

@[simp] theorem fieldRd_encCI (f3 : BitVec 3) (imm : Imm) (rd : Reg) : fieldRd (encCI f3 imm rd) = rd := by
  apply BitVec.eq_of_toNat_eq
  simp only [toNat_fieldRd, toNat_encCI]
  have h0 := Nat.mod_lt (imm.toNat / 32) (show 2 > 0 by decide)
  have h1 := Nat.mod_lt (imm.toNat / 8) (show 4 > 0 by decide)
  have h2 := Nat.mod_lt (imm.toNat / 64) (show 8 > 0 by decide)
  generalize imm.toNat / 32 % 2 = x0 at *
  generalize imm.toNat / 8 % 4 = x1 at *
  generalize imm.toNat / 64 % 8 = x2 at *
  omega

@[simp] theorem cfunct3_encCSS (f3 : BitVec 3) (imm : Imm) (rs2 : Reg) : cfunct3 (encCSS f3 imm rs2) = f3 := by
  apply BitVec.eq_of_toNat_eq
  simp only [toNat_cfunct3, toNat_encCSS]
  have h0 := Nat.mod_lt (imm.toNat / 8) (show 8 > 0 by decide)
  have h1 := Nat.mod_lt (imm.toNat / 64) (show 8 > 0 by decide)
  generalize imm.toNat / 8 % 8 = x0 at *
  generalize imm.toNat / 64 % 8 = x1 at *
  omega

@[simp] theorem fieldRs2C_encCSS (f3 : BitVec 3) (imm : Imm) (rs2 : Reg) : fieldRs2C (encCSS f3 imm rs2) = rs2 := by
  apply BitVec.eq_of_toNat_eq
  simp only [toNat_fieldRs2C, toNat_encCSS]
  have h0 := Nat.mod_lt (imm.toNat / 8) (show 8 > 0 by decide)
  have h1 := Nat.mod_lt (imm.toNat / 64) (show 8 > 0 by decide)
  generalize imm.toNat / 8 % 8 = x0 at *
  generalize imm.toNat / 64 % 8 = x1 at *
  omega

@[simp] theorem cfunct3_encPair (f3 : BitVec 3) (q : BitVec 2) : cfunct3 (encPair f3 q) = f3 := by
  apply BitVec.eq_of_toNat_eq
  simp only [toNat_cfunct3, toNat_encPair]
  omega

@[simp] theorem quadrant_encPair (f3 : BitVec 3) (q : BitVec 2) : quadrant (encPair f3 q) = q := by
  apply BitVec.eq_of_toNat_eq
  simp only [toNat_quadrant, toNat_encPair]
  omega

@[simp] theorem opcode7_encMajor (op : BitVec 7) : opcode7 (encMajor op) = op := by
  apply BitVec.eq_of_toNat_eq
  simp only [toNat_opcode7, toNat_encMajor]
  omega

@[simp] theorem quadrant_encR (f7 : BitVec 7) (rs2 : Reg) (rs1 : Reg) (f3 : BitVec 3) (rd : Reg) (op : BitVec 7) :
    quadrant (encR f7 rs2 rs1 f3 rd op) = op.extractLsb' 0 2 := by
  apply BitVec.eq_of_toNat_eq
  simp only [toNat_quadrant, toNat_encR, toNat_slice]
  omega

@[simp] theorem lengthPrefix_encR (f7 : BitVec 7) (rs2 : Reg) (rs1 : Reg) (f3 : BitVec 3) (rd : Reg) (op : BitVec 7) :
    lengthPrefix (encR f7 rs2 rs1 f3 rd op) = op.extractLsb' 0 5 := by
  apply BitVec.eq_of_toNat_eq
  simp only [toNat_lengthPrefix, toNat_encR, toNat_slice]
  omega

@[simp] theorem quadrant_encR4 (rs3 : Reg) (fmt : BitVec 2) (rs2 : Reg) (rs1 : Reg) (f3 : BitVec 3) (rd : Reg) (op :
    BitVec 7) :
    quadrant (encR4 rs3 fmt rs2 rs1 f3 rd op) = op.extractLsb' 0 2 := by
  apply BitVec.eq_of_toNat_eq
  simp only [toNat_quadrant, toNat_encR4, toNat_slice]
  omega

@[simp] theorem lengthPrefix_encR4 (rs3 : Reg) (fmt : BitVec 2) (rs2 : Reg) (rs1 : Reg) (f3 : BitVec 3) (rd : Reg)
    (op : BitVec 7) :
    lengthPrefix (encR4 rs3 fmt rs2 rs1 f3 rd op) = op.extractLsb' 0 5 := by
  apply BitVec.eq_of_toNat_eq
  simp only [toNat_lengthPrefix, toNat_encR4, toNat_slice]
  omega

@[simp] theorem quadrant_encI (imm : Imm) (rs1 : Reg) (f3 : BitVec 3) (rd : Reg) (op : BitVec 7) :
    quadrant (encI imm rs1 f3 rd op) = op.extractLsb' 0 2 := by
  apply BitVec.eq_of_toNat_eq
  simp only [toNat_quadrant, toNat_encI, toNat_slice]
  have h0 := Nat.mod_lt (imm.toNat) (show 4096 > 0 by decide)
  generalize imm.toNat % 4096 = x0 at *
  omega

@[simp] theorem lengthPrefix_encI (imm : Imm) (rs1 : Reg) (f3 : BitVec 3) (rd : Reg) (op : BitVec 7) :
    lengthPrefix (encI imm rs1 f3 rd op) = op.extractLsb' 0 5 := by
  apply BitVec.eq_of_toNat_eq
  simp only [toNat_lengthPrefix, toNat_encI, toNat_slice]
  have h0 := Nat.mod_lt (imm.toNat) (show 4096 > 0 by decide)
  generalize imm.toNat % 4096 = x0 at *
  omega

@[simp] theorem quadrant_encS (imm : Imm) (rs2 : Reg) (rs1 : Reg) (f3 : BitVec 3) (op : BitVec 7) :
    quadrant (encS imm rs2 rs1 f3 op) = op.extractLsb' 0 2 := by
  apply BitVec.eq_of_toNat_eq
  simp only [toNat_quadrant, toNat_encS, toNat_slice]
  have h0 := Nat.mod_lt (imm.toNat / 32) (show 128 > 0 by decide)
  have h1 := Nat.mod_lt (imm.toNat) (show 32 > 0 by decide)
  generalize imm.toNat / 32 % 128 = x0 at *
  generalize imm.toNat % 32 = x1 at *
  omega

@[simp] theorem lengthPrefix_encS (imm : Imm) (rs2 : Reg) (rs1 : Reg) (f3 : BitVec 3) (op : BitVec 7) :
    lengthPrefix (encS imm rs2 rs1 f3 op) = op.extractLsb' 0 5 := by
  apply BitVec.eq_of_toNat_eq
  simp only [toNat_lengthPrefix, toNat_encS, toNat_slice]
  have h0 := Nat.mod_lt (imm.toNat / 32) (show 128 > 0 by decide)
  have h1 := Nat.mod_lt (imm.toNat) (show 32 > 0 by decide)
  generalize imm.toNat / 32 % 128 = x0 at *
  generalize imm.toNat % 32 = x1 at *
  omega

@[simp] theorem quadrant_encMajor (op : BitVec 7) : quadrant (encMajor op) = op.extractLsb' 0 2 := by
  apply BitVec.eq_of_toNat_eq
  simp only [toNat_quadrant, toNat_encMajor, toNat_slice]
  omega

@[simp] theorem lengthPrefix_encMajor (op : BitVec 7) : lengthPrefix (encMajor op) = op.extractLsb' 0 5 := by
  apply BitVec.eq_of_toNat_eq
  simp only [toNat_lengthPrefix, toNat_encMajor, toNat_slice]
  omega

@[simp] theorem quadrant_encCL (f3 : BitVec 3) (imm : Imm) (rs1 : Reg) (r : Reg) :
    quadrant (encCL f3 imm rs1 r) = 0b00#2 := by
  apply BitVec.eq_of_toNat_eq
  simp only [toNat_quadrant, toNat_encCL, BitVec.toNat_ofNat]
  have h0 := Nat.mod_lt (imm.toNat / 8) (show 8 > 0 by decide)
  have h1 := Nat.mod_lt (imm.toNat / 64) (show 4 > 0 by decide)
  have h2 := Nat.mod_lt (rs1.toNat) (show 8 > 0 by decide)
  have h3 := Nat.mod_lt (r.toNat) (show 8 > 0 by decide)
  generalize imm.toNat / 8 % 8 = x0 at *
  generalize imm.toNat / 64 % 4 = x1 at *
  generalize rs1.toNat % 8 = x2 at *
  generalize r.toNat % 8 = x3 at *
  omega

@[simp] theorem quadrant_encCI (f3 : BitVec 3) (imm : Imm) (rd : Reg) : quadrant (encCI f3 imm rd) = 0b10#2 := by
  apply BitVec.eq_of_toNat_eq
  simp only [toNat_quadrant, toNat_encCI, BitVec.toNat_ofNat]
  have h0 := Nat.mod_lt (imm.toNat / 32) (show 2 > 0 by decide)
  have h1 := Nat.mod_lt (imm.toNat / 8) (show 4 > 0 by decide)
  have h2 := Nat.mod_lt (imm.toNat / 64) (show 8 > 0 by decide)
  generalize imm.toNat / 32 % 2 = x0 at *
  generalize imm.toNat / 8 % 4 = x1 at *
  generalize imm.toNat / 64 % 8 = x2 at *
  omega

@[simp] theorem quadrant_encCSS (f3 : BitVec 3) (imm : Imm) (rs2 : Reg) : quadrant (encCSS f3 imm rs2) = 0b10#2 := by
  apply BitVec.eq_of_toNat_eq
  simp only [toNat_quadrant, toNat_encCSS, BitVec.toNat_ofNat]
  have h0 := Nat.mod_lt (imm.toNat / 8) (show 8 > 0 by decide)
  have h1 := Nat.mod_lt (imm.toNat / 64) (show 8 > 0 by decide)
  generalize imm.toNat / 8 % 8 = x0 at *
  generalize imm.toNat / 64 % 8 = x1 at *
  omega

@[simp] theorem funct5_encR (f7 : BitVec 7) (rs2 : Reg) (rs1 : Reg) (f3 : BitVec 3) (rd : Reg) (op : BitVec 7) :
    funct5 (encR f7 rs2 rs1 f3 rd op) = f7.extractLsb' 2 5 := by
  apply BitVec.eq_of_toNat_eq
  simp only [toNat_funct5, toNat_encR, toNat_slice]
  omega

@[simp] theorem fmt2_encR (f7 : BitVec 7) (rs2 : Reg) (rs1 : Reg) (f3 : BitVec 3) (rd : Reg) (op : BitVec 7) :
    fmt2 (encR f7 rs2 rs1 f3 rd op) = f7.extractLsb' 0 2 := by
  apply BitVec.eq_of_toNat_eq
  simp only [toNat_fmt2, toNat_encR, toNat_slice]
  omega

@[simp] theorem fieldRs1C_encCL (f3 : BitVec 3) (imm : Imm) (rs1 : Reg) (r : Reg) :
    fieldRs1C (encCL f3 imm rs1 r) = compressedReg (creg rs1) := by
  unfold fieldRs1C
  congr 1
  apply BitVec.eq_of_toNat_eq
  simp only [toNat_slice, toNat_encCL, creg, Nat.reducePow, Nat.pow_zero, Nat.div_one]
  have h0 := Nat.mod_lt (imm.toNat / 8) (show 8 > 0 by decide)
  have h1 := Nat.mod_lt (imm.toNat / 64) (show 4 > 0 by decide)
  have h2 := Nat.mod_lt (rs1.toNat) (show 8 > 0 by decide)
  have h3 := Nat.mod_lt (r.toNat) (show 8 > 0 by decide)
  generalize imm.toNat / 8 % 8 = x0 at *
  generalize imm.toNat / 64 % 4 = x1 at *
  generalize rs1.toNat % 8 = x2 at *
  generalize r.toNat % 8 = x3 at *
  omega

@[simp] theorem fieldRdC_encCL (f3 : BitVec 3) (imm : Imm) (rs1 : Reg) (r : Reg) :
    fieldRdC (encCL f3 imm rs1 r) = compressedReg (creg r) := by
  unfold fieldRdC
  congr 1
  apply BitVec.eq_of_toNat_eq
  simp only [toNat_slice, toNat_encCL, creg, Nat.reducePow, Nat.pow_zero, Nat.div_one]
  have h0 := Nat.mod_lt (imm.toNat / 8) (show 8 > 0 by decide)
  have h1 := Nat.mod_lt (imm.toNat / 64) (show 4 > 0 by decide)
  have h2 := Nat.mod_lt (rs1.toNat) (show 8 > 0 by decide)
  have h3 := Nat.mod_lt (r.toNat) (show 8 > 0 by decide)
  generalize imm.toNat / 8 % 8 = x0 at *
  generalize imm.toNat / 64 % 4 = x1 at *
  generalize rs1.toNat % 8 = x2 at *
  generalize r.toNat % 8 = x3 at *
  omega

/-- The operation of an atomic's `funct7`. -/
@[simp] theorem amoFunct7_op (f5 : BitVec 5) (a : AqRl) : (f5 ++ a).extractLsb' 2 5 = f5 := by
  apply BitVec.eq_of_toNat_eq
  simp only [toNat_slice, toNat_append_add]
  omega

/-- The ordering bits of an atomic's `funct7`. -/
@[simp] theorem amoFunct7_aqrl (f5 : BitVec 5) (a : AqRl) : (f5 ++ a).extractLsb' 0 2 = a := by
  apply BitVec.eq_of_toNat_eq
  simp only [toNat_slice, toNat_append_add]
  omega

/-! ### The immediates as numbers -/

theorem toNat_immCL (w : Word) :
    (immCL w).toNat = w.toNat / 32 % 4 * 64 + w.toNat / 1024 % 8 * 8 := by
  change (((w.extractLsb' 5 2 ++ (w.extractLsb' 10 3 ++ 0#0)) ++ 0#3).setWidth 64).toNat = _
  simp only [BitVec.toNat_setWidth, toNat_append_add, toNat_slice, BitVec.toNat_ofNat, Nat.reducePow]
  omega

theorem toNat_immCI (w : Word) :
    (immCI w).toNat = w.toNat / 4 % 8 * 64 + w.toNat / 4096 % 2 * 32 + w.toNat / 32 % 4 * 8 := by
  change (((w.extractLsb' 2 3 ++ (w.extractLsb' 12 1 ++ (w.extractLsb' 5 2 ++ 0#0))) ++ 0#3).setWidth 64).toNat = _
  simp only [BitVec.toNat_setWidth, toNat_append_add, toNat_slice, BitVec.toNat_ofNat, Nat.reducePow]
  omega

theorem toNat_immCSS (w : Word) :
    (immCSS w).toNat = w.toNat / 128 % 8 * 64 + w.toNat / 1024 % 8 * 8 := by
  change (((w.extractLsb' 7 3 ++ (w.extractLsb' 10 3 ++ 0#0)) ++ 0#3).setWidth 64).toNat = _
  simp only [BitVec.toNat_setWidth, toNat_append_add, toNat_slice, BitVec.toNat_ofNat, Nat.reducePow]
  omega

/-- The number a signed slice stands for. -/
theorem toInt_signExtend64 {n : Nat} (x : BitVec n) (h : n ≤ 64) : (x.signExtend 64).toInt = x.toInt :=
  BitVec.toInt_signExtend_of_le h

theorem toInt_immI (w : Word) : (immI w).toInt =
    if w.toNat / 1048576 < 2048 then ((w.toNat / 1048576 : Nat) : Int) else ((w.toNat / 1048576 : Nat) : Int) - 4096
        := by
  change (((w.extractLsb' 20 12 ++ 0#0) ++ 0#0).signExtend 64).toInt = _
  rw [toInt_signExtend64 _ (by decide), BitVec.toInt_eq_toNat_cond]
  simp only [toNat_append_add, toNat_slice, BitVec.toNat_ofNat]
  simp only [Nat.reducePow, Nat.reduceAdd]
  have := w.isLt
  split <;> split <;> omega

theorem toInt_immS (w : Word) : (immS w).toInt =
    if w.toNat / 33554432 * 32 + w.toNat / 128 % 32 < 2048 then
      ((w.toNat / 33554432 * 32 + w.toNat / 128 % 32 : Nat) : Int)
    else ((w.toNat / 33554432 * 32 + w.toNat / 128 % 32 : Nat) : Int) - 4096 := by
  change (((w.extractLsb' 25 7 ++ (w.extractLsb' 7 5 ++ 0#0)) ++ 0#0).signExtend 64).toInt = _
  rw [toInt_signExtend64 _ (by decide), BitVec.toInt_eq_toNat_cond]
  simp only [toNat_append_add, toNat_slice, BitVec.toNat_ofNat]
  simp only [Nat.reducePow, Nat.reduceAdd]
  have := w.isLt
  split <;> split <;> omega

/-! ### Every immediate read back -/

theorem toInt_of_wfSigned12 (imm : Imm) (h : wfSigned12 imm = true) :
    imm.toInt = if imm.toNat % 4096 < 2048 then ((imm.toNat % 4096 : Nat) : Int) else ((imm.toNat % 4096 : Nat) :
        Int) - 4096 := by
  simp only [wfSigned12, Bool.and_eq_true, decide_eq_true_eq] at h
  rw [BitVec.toInt_eq_toNat_cond] at *
  have := imm.isLt
  split <;> split at h <;> omega

theorem immI_encI (imm : Imm) (rs1 : Reg) (f3 : BitVec 3) (rd : Reg) (op : BitVec 7) (h : wfSigned12 imm = true) :
    immI (encI imm rs1 f3 rd op) = imm := by
  apply BitVec.eq_of_toInt_eq
  rw [toInt_immI, toNat_encI, toInt_of_wfSigned12 imm h]
  have : (imm.toNat % 4096 * 1048576 + rs1.toNat * 32768 + f3.toNat * 4096 + rd.toNat * 128 + op.toNat) / 1048576 =
      imm.toNat % 4096 := by omega
  rw [this]

theorem immS_encS (imm : Imm) (rs2 rs1 : Reg) (f3 : BitVec 3) (op : BitVec 7) (h : wfSigned12 imm = true) :
    immS (encS imm rs2 rs1 f3 op) = imm := by
  apply BitVec.eq_of_toInt_eq
  rw [toInt_immS, toNat_encS, toInt_of_wfSigned12 imm h]
  have hm : imm.toNat % 4096 = imm.toNat / 32 % 128 * 32 + imm.toNat % 32 := by omega
  rw [hm]
  have h0 := Nat.mod_lt (imm.toNat / 32) (show 128 > 0 by decide)
  have h1 := Nat.mod_lt (imm.toNat) (show 32 > 0 by decide)
  generalize imm.toNat / 32 % 128 = x0 at *
  generalize imm.toNat % 32 = x1 at *
  have hv : (x0 * 33554432 + rs2.toNat * 1048576 + rs1.toNat * 32768 + f3.toNat * 4096 + x1 * 128 + op.toNat) /
      33554432 * 32 + (x0 * 33554432 + rs2.toNat * 1048576 + rs1.toNat * 32768 + f3.toNat * 4096 + x1 * 128 +
      op.toNat) / 128 % 32 = x0 * 32 + x1 := by omega
  simp only [hv]

theorem immCL_encCL (f3 : BitVec 3) (imm : Imm) (rs1 r : Reg) (h : wfScaled5 imm = true) :
    immCL (encCL f3 imm rs1 r) = imm := by
  simp only [wfScaled5, Bool.and_eq_true, decide_eq_true_eq] at h
  apply BitVec.eq_of_toNat_eq
  have hm : imm.toNat = imm.toNat / 64 % 4 * 64 + imm.toNat / 8 % 8 * 8 := by omega
  rw [toNat_immCL, toNat_encCL]
  refine Eq.trans ?_ hm.symm
  clear h hm
  have h0 := Nat.mod_lt (imm.toNat / 8) (show 8 > 0 by decide)
  have h1 := Nat.mod_lt (imm.toNat / 64) (show 4 > 0 by decide)
  have h2 := Nat.mod_lt (rs1.toNat) (show 8 > 0 by decide)
  have h3 := Nat.mod_lt (r.toNat) (show 8 > 0 by decide)
  generalize imm.toNat / 8 % 8 = x0 at *
  generalize imm.toNat / 64 % 4 = x1 at *
  generalize rs1.toNat % 8 = x2 at *
  generalize r.toNat % 8 = x3 at *
  omega

theorem immCI_encCI (f3 : BitVec 3) (imm : Imm) (rd : Reg) (h : wfScaled6 imm = true) :
    immCI (encCI f3 imm rd) = imm := by
  simp only [wfScaled6, Bool.and_eq_true, decide_eq_true_eq] at h
  apply BitVec.eq_of_toNat_eq
  have hm : imm.toNat = imm.toNat / 64 % 8 * 64 + imm.toNat / 32 % 2 * 32 + imm.toNat / 8 % 4 * 8 := by omega
  rw [toNat_immCI, toNat_encCI]
  refine Eq.trans ?_ hm.symm
  clear h hm
  have h0 := Nat.mod_lt (imm.toNat / 32) (show 2 > 0 by decide)
  have h1 := Nat.mod_lt (imm.toNat / 8) (show 4 > 0 by decide)
  have h2 := Nat.mod_lt (imm.toNat / 64) (show 8 > 0 by decide)
  generalize imm.toNat / 32 % 2 = x0 at *
  generalize imm.toNat / 8 % 4 = x1 at *
  generalize imm.toNat / 64 % 8 = x2 at *
  omega

theorem immCSS_encCSS (f3 : BitVec 3) (imm : Imm) (rs2 : Reg) (h : wfScaled6 imm = true) :
    immCSS (encCSS f3 imm rs2) = imm := by
  simp only [wfScaled6, Bool.and_eq_true, decide_eq_true_eq] at h
  apply BitVec.eq_of_toNat_eq
  have hm : imm.toNat = imm.toNat / 64 % 8 * 64 + imm.toNat / 8 % 8 * 8 := by omega
  rw [toNat_immCSS, toNat_encCSS]
  refine Eq.trans ?_ hm.symm
  clear h hm
  have h0 := Nat.mod_lt (imm.toNat / 8) (show 8 > 0 by decide)
  have h1 := Nat.mod_lt (imm.toNat / 64) (show 8 > 0 by decide)
  generalize imm.toNat / 8 % 8 = x0 at *
  generalize imm.toNat / 64 % 8 = x1 at *
  omega

end Sys2Proof
end

