-- ==== Sys2Proof/Laws/Rows.lean ====
section
/-! SUPPORT. Between a row's mask and value and the fields of a word: a field that the mask covers whole is fixed by the
value, and a word whose fields agree with the value under the mask matches the row (spec 30_encoding.md R105). -/

namespace Sys2Proof

/-- A field that the mask covers whole. -/
theorem slice_of_row {w m v : Word} (h : w &&& m = v) (lo k : Nat) (hm : m.extractLsb' lo k = BitVec.allOnes k) :
    w.extractLsb' lo k = v.extractLsb' lo k := by
  rw [← h, BitVec.extractLsb'_and, hm, BitVec.and_allOnes]

theorem opcode7_of_row {w m v : Word} (h : w &&& m = v) (hm : opcode7 m = BitVec.allOnes 7) :
    opcode7 w = opcode7 v := slice_of_row h 0 7 hm

theorem funct3_of_row {w m v : Word} (h : w &&& m = v) (hm : funct3 m = BitVec.allOnes 3) : funct3 w = funct3 v :=
  slice_of_row h 12 3 hm

theorem fieldRs2_of_row {w m v : Word} (h : w &&& m = v) (hm : fieldRs2 m = BitVec.allOnes 5) :
    fieldRs2 w = fieldRs2 v := slice_of_row h 20 5 hm

theorem funct7_of_row {w m v : Word} (h : w &&& m = v) (hm : funct7 m = BitVec.allOnes 7) : funct7 w = funct7 v :=
  slice_of_row h 25 7 hm

theorem funct5_of_row {w m v : Word} (h : w &&& m = v) (hm : funct5 m = BitVec.allOnes 5) : funct5 w = funct5 v :=
  slice_of_row h 27 5 hm

theorem fmt2_of_row {w m v : Word} (h : w &&& m = v) (hm : fmt2 m = BitVec.allOnes 2) : fmt2 w = fmt2 v :=
  slice_of_row h 25 2 hm

theorem quadrant_of_row {w m v : Word} (h : w &&& m = v) (hm : quadrant m = BitVec.allOnes 2) :
    quadrant w = quadrant v := slice_of_row h 0 2 hm

theorem cfunct3_of_row {w m v : Word} (h : w &&& m = v) (hm : cfunct3 m = BitVec.allOnes 3) :
    cfunct3 w = cfunct3 v := slice_of_row h 13 3 hm

theorem lengthPrefix_of_row {w m v : Word} (h : w &&& m = v) (hm : lengthPrefix m = BitVec.allOnes 5) :
    lengthPrefix w = lengthPrefix v := slice_of_row h 0 5 hm

/-- Two words with the same standard fields are the same. -/
theorem word_ext {x y : Word} (h5 : funct5 x = funct5 y) (hf : fmt2 x = fmt2 y) (h2 : fieldRs2 x = fieldRs2 y)
    (h1 : fieldRs1 x = fieldRs1 y) (h3 : funct3 x = funct3 y) (hd : fieldRd x = fieldRd y)
    (ho : opcode7 x = opcode7 y) : x = y := by
  have := x.isLt
  have := y.isLt
  apply BitVec.eq_of_toNat_eq
  have e5 := congrArg BitVec.toNat h5
  have ef := congrArg BitVec.toNat hf
  have e2 := congrArg BitVec.toNat h2
  have e1 := congrArg BitVec.toNat h1
  have e3 := congrArg BitVec.toNat h3
  have ed := congrArg BitVec.toNat hd
  have eo := congrArg BitVec.toNat ho
  simp only [toNat_funct5, toNat_fmt2, toNat_fieldRs2, toNat_fieldRs1, toNat_funct3, toNat_fieldRd,
    toNat_opcode7] at e5 ef e2 e1 e3 ed eo
  omega

/-- The last two bits and the length prefix are parts of the major opcode. -/
theorem quadrant_eq_opcode7 (w : Word) : quadrant w = (opcode7 w).extractLsb' 0 2 := by
  apply BitVec.eq_of_toNat_eq
  simp only [toNat_quadrant, toNat_slice, toNat_opcode7]
  omega

theorem lengthPrefix_eq_opcode7 (w : Word) : lengthPrefix w = (opcode7 w).extractLsb' 0 5 := by
  apply BitVec.eq_of_toNat_eq
  simp only [toNat_lengthPrefix, toNat_slice, toNat_opcode7]
  omega

theorem funct5_eq_funct7 (w : Word) : funct5 w = (funct7 w).extractLsb' 2 5 := by
  apply BitVec.eq_of_toNat_eq
  simp only [toNat_funct5, toNat_slice, toNat_funct7]
  omega

theorem fmt2_eq_funct7 (w : Word) : fmt2 w = (funct7 w).extractLsb' 0 2 := by
  apply BitVec.eq_of_toNat_eq
  simp only [toNat_fmt2, toNat_slice, toNat_funct7]
  omega

/-- A field that the mask covers whole, of a word that has the row's value there. -/
theorem slice_and_ones {w m v : Word} (lo k : Nat) (hm : m.extractLsb' lo k = BitVec.allOnes k)
    (h : w.extractLsb' lo k = v.extractLsb' lo k) : (w &&& m).extractLsb' lo k = v.extractLsb' lo k := by
  rw [BitVec.extractLsb'_and, hm, BitVec.and_allOnes, h]

/-- A field that the mask leaves free, where the value is 0. -/
theorem slice_and_zero {w m v : Word} (lo k : Nat) (hm : m.extractLsb' lo k = 0#k) (hv : v.extractLsb' lo k = 0#k) :
    (w &&& m).extractLsb' lo k = v.extractLsb' lo k := by
  rw [BitVec.extractLsb'_and, hm, BitVec.and_zero, hv]

end Sys2Proof
end

