-- ==== Sys2Proof/Laws/Decode.lean ====
section
/-! SUPPORT. Decode by format and by major opcode, and the record of a word from what it decodes to. -/

namespace Sys2Proof

/-! ### One lemma per branch of decode -/

theorem decode_compressed {w : Word} (h : quadrant w ≠ 0b11#2) : decode w = .instr (decodeCompressed w) := by
  rw [decode, if_pos h]

/-- The length prefix holds the quadrant in its low two bits. -/
theorem quadrant_of_prefix {w : Word} (h : lengthPrefix w = 0b11111#5) : quadrant w = 0b11#2 := by
  have h := congrArg BitVec.toNat h
  apply BitVec.eq_of_toNat_eq
  simp only [toNat_lengthPrefix, toNat_quadrant, BitVec.toNat_ofNat] at *
  omega

theorem decode_long {w : Word} (h : lengthPrefix w = 0b11111#5) : decode w = .instr .illegalLong := by
  rw [decode, if_neg (not_not.2 (quadrant_of_prefix h)), if_pos h]

theorem decode_standard {w : Word} (hq : quadrant w = 0b11#2) (hp : lengthPrefix w ≠ 0b11111#5) :
    decode w = decodeStandard w := by
  rw [decode, if_neg (not_not.2 hq), if_neg hp]

/-- A word whose major opcode is not a reserved long one. -/
theorem decode_major {w : Word} {op : BitVec 7} (h : opcode7 w = op) (hq : op.extractLsb' 0 2 = 0b11#2)
    (hp : op.extractLsb' 0 5 ≠ 0b11111#5) : decode w = decodeStandard w :=
  decode_standard (by rw [quadrant_eq_opcode7, h, hq]) (by rw [lengthPrefix_eq_opcode7, h]; exact hp)

theorem decode_loadFp {w : Word} (h : opcode7 w = 0b0000111#7) : decode w = decodeLoadFp w := by
  rw [decode_major h (by decide) (by decide), decodeStandard, h]; rfl

theorem decode_storeFp {w : Word} (h : opcode7 w = 0b0100111#7) : decode w = decodeStoreFp w := by
  rw [decode_major h (by decide) (by decide), decodeStandard, h]; rfl

theorem decode_amo {w : Word} (h : opcode7 w = 0b0101111#7) : decode w = decodeAmo w := by
  rw [decode_major h (by decide) (by decide), decodeStandard, h]; rfl

theorem decode_madd {w : Word} (h : opcode7 w = 0b1000011#7) : decode w = decodeFma w .fmaddS .fmaddD := by
  rw [decode_major h (by decide) (by decide), decodeStandard, h]; rfl

theorem decode_msub {w : Word} (h : opcode7 w = 0b1000111#7) : decode w = decodeFma w .fmsubS .fmsubD := by
  rw [decode_major h (by decide) (by decide), decodeStandard, h]; rfl

theorem decode_nmsub {w : Word} (h : opcode7 w = 0b1001011#7) : decode w = decodeFma w .fnmsubS .fnmsubD := by
  rw [decode_major h (by decide) (by decide), decodeStandard, h]; rfl

theorem decode_nmadd {w : Word} (h : opcode7 w = 0b1001111#7) : decode w = decodeFma w .fnmaddS .fnmaddD := by
  rw [decode_major h (by decide) (by decide), decodeStandard, h]; rfl

theorem decode_opFp {w : Word} (h : opcode7 w = 0b1010011#7) : decode w = decodeOpFp w := by
  rw [decode_major h (by decide) (by decide), decodeStandard, h]; rfl

end Sys2Proof

namespace Sys2Proof.Machine

/-- Whatever the state, running the word drives the record, and the pc moves on by its length. -/
def Drives (w : Word) (r : Record) : Prop :=
  ∀ s : State, runWord w s = .next { s with insn := w, out := r, pc := s.pc + r.length.setWidth 64 }

/-- An instruction that drives a record drives it for its word. -/
theorem drives_of_decode {w : Word} {i : Instr} {r : Record} (hd : decode w = .instr i)
    (he : ∀ s, exec i s = emit r s) : Drives w r := fun s => by
  rw [runWord_instr w i s hd, he]
  rfl

theorem answers_of_drives {w : Word} {r : Record} (h : Drives w r) : Answers w r := fun s => ⟨_, h s, rfl, rfl⟩

theorem answers_of_decode {w : Word} {i : Instr} {r : Record} (hd : decode w = .instr i)
    (he : ∀ s, exec i s = emit r s) : Answers w r := answers_of_drives (drives_of_decode hd he)

/-- The record of a word that is answered. -/
theorem decodeRecord_of_answers {w : Word} {r : Record} (h : Answers w r) : decodeRecord w = r := by
  obtain ⟨t, ht, -, rfl⟩ := h State.reset
  rw [decodeRecord, ht]

theorem decodeRecord_of_emit {w : Word} {i : Instr} {r : Record} (hd : decode w = .instr i)
    (he : ∀ s, exec i s = emit r s) : decodeRecord w = r := decodeRecord_of_answers (answers_of_decode hd he)

theorem decodeRecord_of_long {w : Word} (hd : decode w = .instr .illegalLong) :
    decodeRecord w = illegalRecord 2#3 := by
  rw [decodeRecord, runWord_instr w _ _ hd]
  rfl

theorem decodeRecord_of_unimplemented {w : Word} {i : Instr} {n : BitVec 3} (hd : decode w = .instr i)
    (he : ∀ s, exec i s = emitUnimplemented n s) : decodeRecord w = unimpRecord n := by
  rw [decodeRecord, runWord_instr w _ _ hd, he]
  rfl

theorem decodeRecord_of_illegal {w : Word} {c : IllegalCase} (hd : decode w = .illegal c) :
    decodeRecord w = illegalRecord 4#3 := by
  rw [decodeRecord, runWord_illegal w _ _ hd]
  rfl

/-- Whatever the state, a word ends in one of four ways: a decoded record, `ILLEGAL(2)` or `ILLEGAL(4)` on the illegal
path, or `UNIMP(n)` on the unimplemented path. -/
theorem runWord_cases (w : Word) :
    (∃ r : Record, r.decoded ∧ decodeRecord w = r ∧ Drives w r) ∨
    (∃ n, (n = 2#3 ∨ n = 4#3) ∧ decodeRecord w = illegalRecord n ∧ ∀ s, runWord w s = emitIllegal n (s.present w)) ∨
    (∃ n, (n = 2#3 ∨ n = 4#3) ∧ decodeRecord w = unimpRecord n ∧
      ∀ s, runWord w s = emitUnimplemented n (s.present w)) := by
  cases hd : decode w with
  | illegal c => exact .inr (.inl ⟨4#3, .inr rfl, decodeRecord_of_illegal hd, fun s => runWord_illegal w c s hd⟩)
  | instr i =>
    rcases exec_cases i with ⟨r, hr, -, he⟩ | ⟨rfl, he⟩ | ⟨hn, he⟩
    · exact .inl ⟨r, hr, decodeRecord_of_emit hd he, drives_of_decode hd he⟩
    · exact .inr (.inl ⟨2#3, .inl rfl, decodeRecord_of_long hd, fun s => by rw [runWord_instr w _ s hd, he]⟩)
    · refine .inr (.inr ⟨BitVec.ofNat 3 i.size, ?_, decodeRecord_of_unimplemented hd he, fun s => by
        rw [runWord_instr w _ s hd, he]⟩)
      rcases hn with h | h <;> simp [h]

end Sys2Proof.Machine
end

