-- ==== Sys2Proof/Laws/Memory.lean ====
section
/-! SUPPORT. Instruction memory: a read after a write, and that every operation keeps the canonical form. -/

namespace Sys2Proof.Machine

theorem readCell_writeCell_same (m : Memory) (k : Nat) (b : Byte) : readCell (writeCell m k b) k = some b := by
  induction m with
  | nil => simp [writeCell, readCell]
  | cons c rest ih =>
    simp only [writeCell]
    split
    · simp [readCell]
    · split
      · simp [readCell]
      · next h => simp [readCell, ih, Ne.symm h]

theorem readCell_writeCell_other (m : Memory) (k j : Nat) (b : Byte) (h : j ≠ k) :
    readCell (writeCell m k b) j = readCell m j := by
  induction m with
  | nil => simp [writeCell, readCell, Ne.symm h]
  | cons c rest ih =>
    simp only [writeCell]
    split
    · simp [readCell, Ne.symm h]
    · split
      · next hk => simp [readCell, ← hk, Ne.symm h]
      · simp [readCell, ih]

/-- A byte read back from where it was put. -/
theorem readByte_writeByte_same (m : Memory) (a : Addr) (b : Byte) : readByte (writeByte m a b) a = some b :=
  readCell_writeCell_same m a.toNat b

/-- A byte put elsewhere changes nothing here. -/
theorem readByte_writeByte_other (m : Memory) (a a' : Addr) (b : Byte) (h : a' ≠ a) :
    readByte (writeByte m a b) a' = readByte m a' :=
  readCell_writeCell_other m a.toNat a'.toNat b fun e => h (BitVec.eq_of_toNat_eq e)

/-- The head of a canonical memory lies in the address space, and the rest is canonical. -/
theorem wf_cons (c : Host.Cell) (rest : Memory) (h : Memory.wf (c :: rest) = true) :
    Memory.wf rest = true ∧ ∀ d ∈ rest.head?, c.1 < d.1 := by
  cases rest with
  | nil => simp [Memory.wf]
  | cons d ds => simpa [Memory.wf, and_comm] using h

theorem wf_of_cons (c : Host.Cell) (rest : Memory) (hc : c.1 < 2 ^ Config.xlen) (h : Memory.wf rest = true)
    (hd : ∀ d ∈ rest.head?, c.1 < d.1) : Memory.wf (c :: rest) = true := by
  cases rest with
  | nil => simpa [Memory.wf] using hc
  | cons d ds => simpa [Memory.wf, h] using hd

theorem wf_head_lt (c : Host.Cell) (rest : Memory) (h : Memory.wf (c :: rest) = true) : c.1 < 2 ^ Config.xlen := by
  induction rest generalizing c with
  | nil => simpa [Memory.wf] using h
  | cons d ds ih =>
    simp only [Memory.wf, Bool.and_eq_true, decide_eq_true_eq] at h
    exact h.1.trans (ih d h.2)

/-- The first address after a write is the old first one or the one written. -/
theorem head_writeCell (m : Memory) (k : Nat) (b : Byte) (d : Host.Cell) (hd : d ∈ (writeCell m k b).head?) :
    d.1 = k ∨ ∃ e ∈ m.head?, d.1 = e.1 := by
  cases m with
  | nil => simp [writeCell] at hd; simp [← hd]
  | cons c rest =>
    simp only [writeCell] at hd
    split at hd
    · simp at hd; simp [← hd]
    · split at hd
      · simp at hd; simp [← hd]
      · simp at hd; simp [← hd]

theorem writeCell_wf (m : Memory) (k : Nat) (b : Byte) (hk : k < 2 ^ Config.xlen) (h : Memory.wf m = true) :
    Memory.wf (writeCell m k b) = true := by
  induction m with
  | nil => simpa [writeCell, Memory.wf] using hk
  | cons c rest ih =>
    obtain ⟨hr, hlt⟩ := wf_cons c rest h
    have hc := wf_head_lt c rest h
    simp only [writeCell]
    split
    · next hkc => exact wf_of_cons _ _ hk h (by simpa using hkc)
    · split
      · next hkc => exact wf_of_cons _ _ hk hr fun d hd => hkc ▸ hlt d hd
      · refine wf_of_cons _ _ hc (ih hr) fun d hd => ?_
        rcases head_writeCell rest k b d hd with hk' | ⟨e, he, hde⟩
        · omega
        · exact hde ▸ hlt e he

/-- Putting a byte keeps the canonical form. -/
theorem writeByte_wf (m : Memory) (a : Addr) (b : Byte) (h : Memory.wf m = true) : Memory.wf (writeByte m a b) = true :=
  writeCell_wf m a.toNat b a.isLt h

/-- Putting a word keeps the canonical form. -/
theorem storeWord_wf (m : Memory) (a : Addr) (w : Word) (h : Memory.wf m = true) : Memory.wf (storeWord m a w) = true :=
  writeByte_wf _ _ _ (writeByte_wf _ _ _ (writeByte_wf _ _ _ (writeByte_wf _ _ _ h)))

end Sys2Proof.Machine
end

