-- ==== Sys2Proof/Laws/PerInstr.lean ====
section
/-! SUPPORT. Per instruction: the length of its encoding is the one the length law reads off its low five bits (spec
30_encoding.md R80), and a two-byte encoding fits the low half of the word. -/

namespace Sys2Proof

theorem encCL_lt (f3 : BitVec 3) (imm : Imm) (rs1 r : Reg) : (encCL f3 imm rs1 r).toNat < 65536 := by
  rw [toNat_encCL]
  omega

theorem encCI_lt (f3 : BitVec 3) (imm : Imm) (rd : Reg) : (encCI f3 imm rd).toNat < 65536 := by
  rw [toNat_encCI]
  omega

theorem encCSS_lt (f3 : BitVec 3) (imm : Imm) (rs2 : Reg) : (encCSS f3 imm rs2).toNat < 65536 := by
  rw [toNat_encCSS]
  omega

theorem encPair_lt (f3 : BitVec 3) (q : BitVec 2) : (encPair f3 q).toNat < 65536 := by
  rw [toNat_encPair]
  omega

/-- The length law's answer for a word (R80). -/
def wordSize (w : Word) : Nat := if quadrant w = 0b11#2 ∧ lengthPrefix w ≠ 0b11111#5 then 4 else 2

theorem wordSize_four (w : Word) (hq : quadrant w = 0b11#2) (hp : lengthPrefix w ≠ 0b11111#5) : wordSize w = 4 :=
  if_pos ⟨hq, hp⟩

theorem wordSize_two (w : Word) (hq : quadrant w ≠ 0b11#2) : wordSize w = 2 := if_neg fun h => hq h.1

namespace Laws.EncodingFormat

/-- The encoding has the length the length law reads off it, and a two-byte one lies in the low half. -/
def Statement (i : Instr) : Prop := i.size = wordSize (encode i) ∧ (i.size = 2 → (encode i).toNat < 65536)

theorem of_four {i : Instr} (hs : i.size = 4) (hq : quadrant (encode i) = 0b11#2)
    (hp : lengthPrefix (encode i) ≠ 0b11111#5) : Statement i :=
  ⟨hs.trans (wordSize_four _ hq hp).symm, fun h => absurd (hs.symm.trans h) (by decide)⟩

theorem of_two {i : Instr} (hs : i.size = 2) (hq : quadrant (encode i) ≠ 0b11#2) (hl : (encode i).toNat < 65536) :
    Statement i :=
  ⟨hs.trans (wordSize_two _ hq).symm, fun _ => hl⟩

/-- A major opcode that encodes a four-byte format. -/
def fourByte (op : BitVec 7) : Bool := decide (op.extractLsb' 0 2 = 0b11#2) && decide (op.extractLsb' 0 5 ≠ 0b11111#5)

theorem of_encR {i : Instr} {f7 : BitVec 7} {rs2 rs1 rd : Reg} {f3 : BitVec 3} {op : BitVec 7} (hs : i.size = 4)
    (he : encode i = encR f7 rs2 rs1 f3 rd op) (ho : fourByte op = true) : Statement i := by
  rw [fourByte, Bool.and_eq_true, decide_eq_true_iff, decide_eq_true_iff] at ho
  exact of_four hs (by rw [he, quadrant_encR]; exact ho.1) (by rw [he, lengthPrefix_encR]; exact ho.2)

theorem of_encR4 {i : Instr} {fmt : BitVec 2} {rs3 rs2 rs1 rd : Reg} {f3 : BitVec 3} {op : BitVec 7}
    (hs : i.size = 4) (he : encode i = encR4 rs3 fmt rs2 rs1 f3 rd op) (ho : fourByte op = true) : Statement i := by
  rw [fourByte, Bool.and_eq_true, decide_eq_true_iff, decide_eq_true_iff] at ho
  exact of_four hs (by rw [he, quadrant_encR4]; exact ho.1) (by rw [he, lengthPrefix_encR4]; exact ho.2)

theorem of_encI {i : Instr} {imm : Imm} {rs1 rd : Reg} {f3 : BitVec 3} {op : BitVec 7} (hs : i.size = 4)
    (he : encode i = encI imm rs1 f3 rd op) (ho : fourByte op = true) : Statement i := by
  rw [fourByte, Bool.and_eq_true, decide_eq_true_iff, decide_eq_true_iff] at ho
  exact of_four hs (by rw [he, quadrant_encI]; exact ho.1) (by rw [he, lengthPrefix_encI]; exact ho.2)

theorem of_encS {i : Instr} {imm : Imm} {rs2 rs1 : Reg} {f3 : BitVec 3} {op : BitVec 7} (hs : i.size = 4)
    (he : encode i = encS imm rs2 rs1 f3 op) (ho : fourByte op = true) : Statement i := by
  rw [fourByte, Bool.and_eq_true, decide_eq_true_iff, decide_eq_true_iff] at ho
  exact of_four hs (by rw [he, quadrant_encS]; exact ho.1) (by rw [he, lengthPrefix_encS]; exact ho.2)

theorem of_encMajor {i : Instr} {op : BitVec 7} (hs : i.size = 4) (he : encode i = encMajor op)
    (ho : fourByte op = true) : Statement i := by
  rw [fourByte, Bool.and_eq_true, decide_eq_true_iff, decide_eq_true_iff] at ho
  exact of_four hs (by rw [he, quadrant_encMajor]; exact ho.1) (by rw [he, lengthPrefix_encMajor]; exact ho.2)

theorem of_encPair {i : Instr} {f3 : BitVec 3} {q : BitVec 2} (hs : i.size = 2) (he : encode i = encPair f3 q)
    (hq : (q != 0b11#2) = true) : Statement i :=
  of_two hs (by rw [he, quadrant_encPair]; exact bne_iff_ne.mp hq) (he ▸ encPair_lt f3 q)

theorem of_encCL {i : Instr} {f3 : BitVec 3} {imm : Imm} {rs1 r : Reg} (hs : i.size = 2)
    (he : encode i = encCL f3 imm rs1 r) : Statement i :=
  of_two hs (by rw [he, quadrant_encCL]; decide) (he ▸ encCL_lt f3 imm rs1 r)

theorem of_encCI {i : Instr} {f3 : BitVec 3} {imm : Imm} {rd : Reg} (hs : i.size = 2)
    (he : encode i = encCI f3 imm rd) : Statement i :=
  of_two hs (by rw [he, quadrant_encCI]; decide) (he ▸ encCI_lt f3 imm rd)

theorem of_encCSS {i : Instr} {f3 : BitVec 3} {imm : Imm} {rs2 : Reg} (hs : i.size = 2)
    (he : encode i = encCSS f3 imm rs2) : Statement i :=
  of_two hs (by rw [he, quadrant_encCSS]; decide) (he ▸ encCSS_lt f3 imm rs2)

theorem cFld (rd rs1 : Reg) (imm : Imm) : Statement (.cFld rd rs1 imm) := of_encCL rfl rfl
theorem cFsd (rs1 rs2 : Reg) (imm : Imm) : Statement (.cFsd rs1 rs2 imm) := of_encCL rfl rfl
theorem cFldsp (rd : Reg) (imm : Imm) : Statement (.cFldsp rd imm) := of_encCI rfl rfl
theorem cFsdsp (rs2 : Reg) (imm : Imm) : Statement (.cFsdsp rs2 imm) := of_encCSS rfl rfl
theorem unimpCAddi4spn : Statement .unimpCAddi4spn := of_encPair rfl rfl rfl
theorem unimpCLw : Statement .unimpCLw := of_encPair rfl rfl rfl
theorem unimpCLd : Statement .unimpCLd := of_encPair rfl rfl rfl
theorem unimpCReserved : Statement .unimpCReserved := of_encPair rfl rfl rfl
theorem unimpCSw : Statement .unimpCSw := of_encPair rfl rfl rfl
theorem unimpCSd : Statement .unimpCSd := of_encPair rfl rfl rfl
theorem unimpCNopAddi : Statement .unimpCNopAddi := of_encPair rfl rfl rfl
theorem unimpCAddiw : Statement .unimpCAddiw := of_encPair rfl rfl rfl
theorem unimpCLi : Statement .unimpCLi := of_encPair rfl rfl rfl
theorem unimpCLuiAddi16sp : Statement .unimpCLuiAddi16sp := of_encPair rfl rfl rfl
theorem unimpCMiscAlu : Statement .unimpCMiscAlu := of_encPair rfl rfl rfl
theorem unimpCJ : Statement .unimpCJ := of_encPair rfl rfl rfl
theorem unimpCBeqz : Statement .unimpCBeqz := of_encPair rfl rfl rfl
theorem unimpCBnez : Statement .unimpCBnez := of_encPair rfl rfl rfl
theorem unimpCSlli : Statement .unimpCSlli := of_encPair rfl rfl rfl
theorem unimpCLwsp : Statement .unimpCLwsp := of_encPair rfl rfl rfl
theorem unimpCLdsp : Statement .unimpCLdsp := of_encPair rfl rfl rfl
theorem unimpCJrMvAdd : Statement .unimpCJrMvAdd := of_encPair rfl rfl rfl
theorem unimpCSwsp : Statement .unimpCSwsp := of_encPair rfl rfl rfl
theorem unimpCSdsp : Statement .unimpCSdsp := of_encPair rfl rfl rfl
theorem illegalLong : Statement .illegalLong := ⟨by decide, fun _ => by decide⟩
theorem flw (rd rs1 : Reg) (imm : Imm) : Statement (.flw rd rs1 imm) := of_encI rfl rfl rfl
theorem fld (rd rs1 : Reg) (imm : Imm) : Statement (.fld rd rs1 imm) := of_encI rfl rfl rfl
theorem fsw (rs1 rs2 : Reg) (imm : Imm) : Statement (.fsw rs1 rs2 imm) := of_encS rfl rfl rfl
theorem fsd (rs1 rs2 : Reg) (imm : Imm) : Statement (.fsd rs1 rs2 imm) := of_encS rfl rfl rfl
theorem lrW (rd rs1 : Reg) (aqrl : AqRl) : Statement (.lrW rd rs1 aqrl) := of_encR rfl rfl rfl
theorem scW (rd rs1 rs2 : Reg) (aqrl : AqRl) : Statement (.scW rd rs1 rs2 aqrl) := of_encR rfl rfl rfl
theorem amoswapW (rd rs1 rs2 : Reg) (aqrl : AqRl) : Statement (.amoswapW rd rs1 rs2 aqrl) := of_encR rfl rfl rfl
theorem amoaddW (rd rs1 rs2 : Reg) (aqrl : AqRl) : Statement (.amoaddW rd rs1 rs2 aqrl) := of_encR rfl rfl rfl
theorem amoxorW (rd rs1 rs2 : Reg) (aqrl : AqRl) : Statement (.amoxorW rd rs1 rs2 aqrl) := of_encR rfl rfl rfl
theorem amoandW (rd rs1 rs2 : Reg) (aqrl : AqRl) : Statement (.amoandW rd rs1 rs2 aqrl) := of_encR rfl rfl rfl
theorem amoorW (rd rs1 rs2 : Reg) (aqrl : AqRl) : Statement (.amoorW rd rs1 rs2 aqrl) := of_encR rfl rfl rfl
theorem amominW (rd rs1 rs2 : Reg) (aqrl : AqRl) : Statement (.amominW rd rs1 rs2 aqrl) := of_encR rfl rfl rfl
theorem amomaxW (rd rs1 rs2 : Reg) (aqrl : AqRl) : Statement (.amomaxW rd rs1 rs2 aqrl) := of_encR rfl rfl rfl
theorem amominuW (rd rs1 rs2 : Reg) (aqrl : AqRl) : Statement (.amominuW rd rs1 rs2 aqrl) := of_encR rfl rfl rfl
theorem amomaxuW (rd rs1 rs2 : Reg) (aqrl : AqRl) : Statement (.amomaxuW rd rs1 rs2 aqrl) := of_encR rfl rfl rfl
theorem lrD (rd rs1 : Reg) (aqrl : AqRl) : Statement (.lrD rd rs1 aqrl) := of_encR rfl rfl rfl
theorem scD (rd rs1 rs2 : Reg) (aqrl : AqRl) : Statement (.scD rd rs1 rs2 aqrl) := of_encR rfl rfl rfl
theorem amoswapD (rd rs1 rs2 : Reg) (aqrl : AqRl) : Statement (.amoswapD rd rs1 rs2 aqrl) := of_encR rfl rfl rfl
theorem amoaddD (rd rs1 rs2 : Reg) (aqrl : AqRl) : Statement (.amoaddD rd rs1 rs2 aqrl) := of_encR rfl rfl rfl
theorem amoxorD (rd rs1 rs2 : Reg) (aqrl : AqRl) : Statement (.amoxorD rd rs1 rs2 aqrl) := of_encR rfl rfl rfl
theorem amoandD (rd rs1 rs2 : Reg) (aqrl : AqRl) : Statement (.amoandD rd rs1 rs2 aqrl) := of_encR rfl rfl rfl
theorem amoorD (rd rs1 rs2 : Reg) (aqrl : AqRl) : Statement (.amoorD rd rs1 rs2 aqrl) := of_encR rfl rfl rfl
theorem amominD (rd rs1 rs2 : Reg) (aqrl : AqRl) : Statement (.amominD rd rs1 rs2 aqrl) := of_encR rfl rfl rfl
theorem amomaxD (rd rs1 rs2 : Reg) (aqrl : AqRl) : Statement (.amomaxD rd rs1 rs2 aqrl) := of_encR rfl rfl rfl
theorem amominuD (rd rs1 rs2 : Reg) (aqrl : AqRl) : Statement (.amominuD rd rs1 rs2 aqrl) := of_encR rfl rfl rfl
theorem amomaxuD (rd rs1 rs2 : Reg) (aqrl : AqRl) : Statement (.amomaxuD rd rs1 rs2 aqrl) := of_encR rfl rfl rfl
theorem fmaddS (rd rs1 rs2 rs3 : Reg) (rm : Rm) : Statement (.fmaddS rd rs1 rs2 rs3 rm) := of_encR4 rfl rfl rfl
theorem fmsubS (rd rs1 rs2 rs3 : Reg) (rm : Rm) : Statement (.fmsubS rd rs1 rs2 rs3 rm) := of_encR4 rfl rfl rfl
theorem fnmsubS (rd rs1 rs2 rs3 : Reg) (rm : Rm) : Statement (.fnmsubS rd rs1 rs2 rs3 rm) := of_encR4 rfl rfl rfl
theorem fnmaddS (rd rs1 rs2 rs3 : Reg) (rm : Rm) : Statement (.fnmaddS rd rs1 rs2 rs3 rm) := of_encR4 rfl rfl rfl
theorem fmaddD (rd rs1 rs2 rs3 : Reg) (rm : Rm) : Statement (.fmaddD rd rs1 rs2 rs3 rm) := of_encR4 rfl rfl rfl
theorem fmsubD (rd rs1 rs2 rs3 : Reg) (rm : Rm) : Statement (.fmsubD rd rs1 rs2 rs3 rm) := of_encR4 rfl rfl rfl
theorem fnmsubD (rd rs1 rs2 rs3 : Reg) (rm : Rm) : Statement (.fnmsubD rd rs1 rs2 rs3 rm) := of_encR4 rfl rfl rfl
theorem fnmaddD (rd rs1 rs2 rs3 : Reg) (rm : Rm) : Statement (.fnmaddD rd rs1 rs2 rs3 rm) := of_encR4 rfl rfl rfl
theorem faddS (rd rs1 rs2 : Reg) (rm : Rm) : Statement (.faddS rd rs1 rs2 rm) := of_encR rfl rfl rfl
theorem fsubS (rd rs1 rs2 : Reg) (rm : Rm) : Statement (.fsubS rd rs1 rs2 rm) := of_encR rfl rfl rfl
theorem fmulS (rd rs1 rs2 : Reg) (rm : Rm) : Statement (.fmulS rd rs1 rs2 rm) := of_encR rfl rfl rfl
theorem fdivS (rd rs1 rs2 : Reg) (rm : Rm) : Statement (.fdivS rd rs1 rs2 rm) := of_encR rfl rfl rfl
theorem fsqrtS (rd rs1 : Reg) (rm : Rm) : Statement (.fsqrtS rd rs1 rm) := of_encR rfl rfl rfl
theorem fsgnjS (rd rs1 rs2 : Reg) : Statement (.fsgnjS rd rs1 rs2) := of_encR rfl rfl rfl
theorem fsgnjnS (rd rs1 rs2 : Reg) : Statement (.fsgnjnS rd rs1 rs2) := of_encR rfl rfl rfl
theorem fsgnjxS (rd rs1 rs2 : Reg) : Statement (.fsgnjxS rd rs1 rs2) := of_encR rfl rfl rfl
theorem fminS (rd rs1 rs2 : Reg) : Statement (.fminS rd rs1 rs2) := of_encR rfl rfl rfl
theorem fmaxS (rd rs1 rs2 : Reg) : Statement (.fmaxS rd rs1 rs2) := of_encR rfl rfl rfl
theorem fcvtWS (rd rs1 : Reg) (rm : Rm) : Statement (.fcvtWS rd rs1 rm) := of_encR rfl rfl rfl
theorem fcvtWuS (rd rs1 : Reg) (rm : Rm) : Statement (.fcvtWuS rd rs1 rm) := of_encR rfl rfl rfl
theorem fcvtLS (rd rs1 : Reg) (rm : Rm) : Statement (.fcvtLS rd rs1 rm) := of_encR rfl rfl rfl
theorem fcvtLuS (rd rs1 : Reg) (rm : Rm) : Statement (.fcvtLuS rd rs1 rm) := of_encR rfl rfl rfl
theorem fmvXW (rd rs1 : Reg) : Statement (.fmvXW rd rs1) := of_encR rfl rfl rfl
theorem fclassS (rd rs1 : Reg) : Statement (.fclassS rd rs1) := of_encR rfl rfl rfl
theorem feqS (rd rs1 rs2 : Reg) : Statement (.feqS rd rs1 rs2) := of_encR rfl rfl rfl
theorem fltS (rd rs1 rs2 : Reg) : Statement (.fltS rd rs1 rs2) := of_encR rfl rfl rfl
theorem fleS (rd rs1 rs2 : Reg) : Statement (.fleS rd rs1 rs2) := of_encR rfl rfl rfl
theorem fcvtSW (rd rs1 : Reg) (rm : Rm) : Statement (.fcvtSW rd rs1 rm) := of_encR rfl rfl rfl
theorem fcvtSWu (rd rs1 : Reg) (rm : Rm) : Statement (.fcvtSWu rd rs1 rm) := of_encR rfl rfl rfl
theorem fcvtSL (rd rs1 : Reg) (rm : Rm) : Statement (.fcvtSL rd rs1 rm) := of_encR rfl rfl rfl
theorem fcvtSLu (rd rs1 : Reg) (rm : Rm) : Statement (.fcvtSLu rd rs1 rm) := of_encR rfl rfl rfl
theorem fmvWX (rd rs1 : Reg) : Statement (.fmvWX rd rs1) := of_encR rfl rfl rfl
theorem fcvtSD (rd rs1 : Reg) (rm : Rm) : Statement (.fcvtSD rd rs1 rm) := of_encR rfl rfl rfl
theorem faddD (rd rs1 rs2 : Reg) (rm : Rm) : Statement (.faddD rd rs1 rs2 rm) := of_encR rfl rfl rfl
theorem fsubD (rd rs1 rs2 : Reg) (rm : Rm) : Statement (.fsubD rd rs1 rs2 rm) := of_encR rfl rfl rfl
theorem fmulD (rd rs1 rs2 : Reg) (rm : Rm) : Statement (.fmulD rd rs1 rs2 rm) := of_encR rfl rfl rfl
theorem fdivD (rd rs1 rs2 : Reg) (rm : Rm) : Statement (.fdivD rd rs1 rs2 rm) := of_encR rfl rfl rfl
theorem fsqrtD (rd rs1 : Reg) (rm : Rm) : Statement (.fsqrtD rd rs1 rm) := of_encR rfl rfl rfl
theorem fsgnjD (rd rs1 rs2 : Reg) : Statement (.fsgnjD rd rs1 rs2) := of_encR rfl rfl rfl
theorem fsgnjnD (rd rs1 rs2 : Reg) : Statement (.fsgnjnD rd rs1 rs2) := of_encR rfl rfl rfl
theorem fsgnjxD (rd rs1 rs2 : Reg) : Statement (.fsgnjxD rd rs1 rs2) := of_encR rfl rfl rfl
theorem fminD (rd rs1 rs2 : Reg) : Statement (.fminD rd rs1 rs2) := of_encR rfl rfl rfl
theorem fmaxD (rd rs1 rs2 : Reg) : Statement (.fmaxD rd rs1 rs2) := of_encR rfl rfl rfl
theorem fcvtWD (rd rs1 : Reg) (rm : Rm) : Statement (.fcvtWD rd rs1 rm) := of_encR rfl rfl rfl
theorem fcvtWuD (rd rs1 : Reg) (rm : Rm) : Statement (.fcvtWuD rd rs1 rm) := of_encR rfl rfl rfl
theorem fcvtLD (rd rs1 : Reg) (rm : Rm) : Statement (.fcvtLD rd rs1 rm) := of_encR rfl rfl rfl
theorem fcvtLuD (rd rs1 : Reg) (rm : Rm) : Statement (.fcvtLuD rd rs1 rm) := of_encR rfl rfl rfl
theorem fmvXD (rd rs1 : Reg) : Statement (.fmvXD rd rs1) := of_encR rfl rfl rfl
theorem fclassD (rd rs1 : Reg) : Statement (.fclassD rd rs1) := of_encR rfl rfl rfl
theorem feqD (rd rs1 rs2 : Reg) : Statement (.feqD rd rs1 rs2) := of_encR rfl rfl rfl
theorem fltD (rd rs1 rs2 : Reg) : Statement (.fltD rd rs1 rs2) := of_encR rfl rfl rfl
theorem fleD (rd rs1 rs2 : Reg) : Statement (.fleD rd rs1 rs2) := of_encR rfl rfl rfl
theorem fcvtDW (rd rs1 : Reg) (rm : Rm) : Statement (.fcvtDW rd rs1 rm) := of_encR rfl rfl rfl
theorem fcvtDWu (rd rs1 : Reg) (rm : Rm) : Statement (.fcvtDWu rd rs1 rm) := of_encR rfl rfl rfl
theorem fcvtDL (rd rs1 : Reg) (rm : Rm) : Statement (.fcvtDL rd rs1 rm) := of_encR rfl rfl rfl
theorem fcvtDLu (rd rs1 : Reg) (rm : Rm) : Statement (.fcvtDLu rd rs1 rm) := of_encR rfl rfl rfl
theorem fmvDX (rd rs1 : Reg) : Statement (.fmvDX rd rs1) := of_encR rfl rfl rfl
theorem fcvtDS (rd rs1 : Reg) (rm : Rm) : Statement (.fcvtDS rd rs1 rm) := of_encR rfl rfl rfl
theorem unimpLoad : Statement .unimpLoad := of_encMajor rfl rfl rfl
theorem unimpCustom0 : Statement .unimpCustom0 := of_encMajor rfl rfl rfl
theorem unimpMiscMem : Statement .unimpMiscMem := of_encMajor rfl rfl rfl
theorem unimpOpImm : Statement .unimpOpImm := of_encMajor rfl rfl rfl
theorem unimpAuipc : Statement .unimpAuipc := of_encMajor rfl rfl rfl
theorem unimpOpImm32 : Statement .unimpOpImm32 := of_encMajor rfl rfl rfl
theorem unimpStore : Statement .unimpStore := of_encMajor rfl rfl rfl
theorem unimpCustom1 : Statement .unimpCustom1 := of_encMajor rfl rfl rfl
theorem unimpOp : Statement .unimpOp := of_encMajor rfl rfl rfl
theorem unimpLui : Statement .unimpLui := of_encMajor rfl rfl rfl
theorem unimpOp32 : Statement .unimpOp32 := of_encMajor rfl rfl rfl
theorem unimpOpV : Statement .unimpOpV := of_encMajor rfl rfl rfl
theorem unimpCustom2 : Statement .unimpCustom2 := of_encMajor rfl rfl rfl
theorem unimpBranch : Statement .unimpBranch := of_encMajor rfl rfl rfl
theorem unimpJalr : Statement .unimpJalr := of_encMajor rfl rfl rfl
theorem unimpReserved : Statement .unimpReserved := of_encMajor rfl rfl rfl
theorem unimpJal : Statement .unimpJal := of_encMajor rfl rfl rfl
theorem unimpSystem : Statement .unimpSystem := of_encMajor rfl rfl rfl
theorem unimpOpP : Statement .unimpOpP := of_encMajor rfl rfl rfl
theorem unimpCustom3 : Statement .unimpCustom3 := of_encMajor rfl rfl rfl

end Laws.EncodingFormat

end Sys2Proof
end

