-- ==== Sys2Proof/Laws/Step.lean ====
section
/-! SUPPORT. What one word and one step can do, said once: the inversion lemmas that a proof about the machine cites. -/

namespace Sys2Proof.Machine

/-- A word that answers a next state: the ports carry the word and its record, the memory, the policy and `mtvec` are as
they were, and either the pc moves on by the length and nothing else changes, or an illegal record traps. -/
theorem runWord_next {w : Word} {s t : State} (h : runWord w s = .next t) :
    t = { s with insn := w, out := decodeRecord w, pc := s.pc + (decodeRecord w).length.setWidth 64 } ∨
    (s.policy = .trapOrRefuse ∧ ∃ n, (n = 2#3 ∨ n = 4#3) ∧ decodeRecord w = illegalRecord n ∧
      t = takeException .illegalInstruction (trapValue n w) { s with insn := w, out := decodeRecord w }) := by
  rcases runWord_cases w with ⟨r, hr, hd, ha⟩ | ⟨n, hn, hd, he⟩ | ⟨n, hn, hd, he⟩
  · rw [ha s] at h
    cases h
    exact .inl (hd ▸ rfl)
  · rw [he s] at h
    rw [hd]
    cases hp : (s.present w).policy with
    | continuePast =>
      rw [emitIllegal_continuePast n _ hp] at h
      exact .inl (Host.Outcome.next.inj h).symm
    | trapOrRefuse =>
      rw [emitIllegal_trapOrRefuse n _ hp] at h
      exact .inr ⟨hp, n, hn, rfl, (Host.Outcome.next.inj h).symm⟩
  · rw [he s] at h
    rw [hd]
    exact .inl (emitUnimplemented_next n _ _ h).2

/-- A step that answers a next state fetched a word at an aligned pc and ran it. -/
theorem step_next {s t : State} (h : step s = .next t) :
    s.pcAligned ∧ ∃ w, fetch s = .ok w ∧ runWord w s = .next t := by
  rw [step, stepOnce] at h
  cases hf : fetch s with
  | error f =>
    rw [hf] at h
    cases h
  | ok w =>
    rw [hf] at h
    refine ⟨?_, w, rfl, h⟩
    by_contra hp
    rw [fetch_misaligned s hp] at hf
    cases hf

end Sys2Proof.Machine
end

