-- ==== Sys2Proof/Tests/Slice0.lean ====
section
/-! SUPPORT. The model's own tests: ill-formed terms, one word per instruction from 95_test_vectors.md Part 3, the encoder
on the words the rules print, single steps from 95_test_vectors.md Part 4, and a witness for every statement that has
hypotheses. Every expected value is the spec's. -/

namespace Sys2Proof.Tests

open Sys2Proof.Machine

/-! ### Helpers -/

/-- The next state of an outcome. -/
def nextOf (o : Host.Outcome State Fault Refusal) : Option State :=
  match o with
  | .next t => some t
  | .fault _ => none
  | .refused _ => none

/-- The fault of an outcome. -/
def faultOf (o : Host.Outcome State Fault Refusal) : Option Fault :=
  match o with
  | .next _ => none
  | .fault f => some f
  | .refused _ => none

/-- The refusal of an outcome. -/
def refusalOf (o : Host.Outcome State Fault Refusal) : Option Refusal :=
  match o with
  | .next _ => none
  | .fault _ => none
  | .refused r => some r

/-- Reset, with the bytes of a program at an aligned pc (log entry 6: a program is loaded from outside). -/
def loaded (pc : Nat) (bytes : List Byte) : State :=
  { State.reset with pc := BitVec.ofNat 64 pc, mem := (List.range bytes.length).map fun k => (pc + k, bytes[k]!) }

/-- The same for a caller that acts on records. -/
def acting (s : State) : State := { s with policy := .trapOrRefuse }

/-! ### Well-formedness: a term that each check refuses -/

theorem test_wf_signed12_high : (Instr.flw 1#5 2#5 2048#64).wf = false := by decide
theorem test_wf_signed12_low : (Instr.fsd 1#5 2#5 (-2049#64)).wf = false := by decide
theorem test_wf_scaled5_high : (Instr.cFld 8#5 8#5 256#64).wf = false := by decide
theorem test_wf_scaled5_step : (Instr.cFsd 8#5 8#5 4#64).wf = false := by decide
theorem test_wf_scaled6_high : (Instr.cFldsp 0#5 512#64).wf = false := by decide
theorem test_wf_scaled6_step : (Instr.cFsdsp 0#5 500#64).wf = false := by decide
theorem test_wf_compressedReg_low : (Instr.cFld 7#5 8#5 0#64).wf = false := by decide
theorem test_wf_compressedReg_high : (Instr.cFsd 8#5 16#5 0#64).wf = false := by decide
theorem test_wf_accepts : (Instr.cFld 15#5 8#5 248#64).wf = true ∧ (Instr.flw 0#5 31#5 (-2048#64)).wf = true := by decide

/-! ### One word per instruction (95_test_vectors.md Part 3: 3.1 to 3.7) -/

theorem test_decode_cFld : decode 0x00003FFC#32 = .instr (.cFld 15#5 15#5 248#64) := by decide
theorem test_decode_cFsd : decode 0x0000A060#32 = .instr (.cFsd 8#5 8#5 192#64) := by decide
theorem test_decode_cFldsp : decode 0x00003FFE#32 = .instr (.cFldsp 31#5 504#64) := by decide
theorem test_decode_cFsdsp : decode 0x0000BFFE#32 = .instr (.cFsdsp 31#5 504#64) := by decide
theorem test_decode_unimpCAddi4spn : decode 0x00001FFC#32 = .instr .unimpCAddi4spn := by decide
theorem test_decode_unimpCLw : decode 0x00005FFC#32 = .instr .unimpCLw := by decide
theorem test_decode_unimpCLd : decode 0x00007FFC#32 = .instr .unimpCLd := by decide
theorem test_decode_unimpCReserved : decode 0x00009FFC#32 = .instr .unimpCReserved := by decide
theorem test_decode_unimpCSw : decode 0x0000DFFC#32 = .instr .unimpCSw := by decide
theorem test_decode_unimpCSd : decode 0x0000FFFC#32 = .instr .unimpCSd := by decide
theorem test_decode_unimpCNopAddi : decode 0x00001FFD#32 = .instr .unimpCNopAddi := by decide
theorem test_decode_unimpCAddiw : decode 0x00003FFD#32 = .instr .unimpCAddiw := by decide
theorem test_decode_unimpCLi : decode 0x00005FFD#32 = .instr .unimpCLi := by decide
theorem test_decode_unimpCLuiAddi16sp : decode 0x00007FFD#32 = .instr .unimpCLuiAddi16sp := by decide
theorem test_decode_unimpCMiscAlu : decode 0x00009FFD#32 = .instr .unimpCMiscAlu := by decide
theorem test_decode_unimpCJ : decode 0x0000BFFD#32 = .instr .unimpCJ := by decide
theorem test_decode_unimpCBeqz : decode 0x0000DFFD#32 = .instr .unimpCBeqz := by decide
theorem test_decode_unimpCBnez : decode 0x0000FFFD#32 = .instr .unimpCBnez := by decide
theorem test_decode_unimpCSlli : decode 0x00001FFE#32 = .instr .unimpCSlli := by decide
theorem test_decode_unimpCLwsp : decode 0x00005FFE#32 = .instr .unimpCLwsp := by decide
theorem test_decode_unimpCLdsp : decode 0x00007FFE#32 = .instr .unimpCLdsp := by decide
theorem test_decode_unimpCJrMvAdd : decode 0x00009FFE#32 = .instr .unimpCJrMvAdd := by decide
theorem test_decode_unimpCSwsp : decode 0x0000DFFE#32 = .instr .unimpCSwsp := by decide
theorem test_decode_unimpCSdsp : decode 0x0000FFFE#32 = .instr .unimpCSdsp := by decide
theorem test_decode_illegalLong : decode 0xFFFFFFFF#32 = .instr .illegalLong := by decide
theorem test_decode_flw : decode 0xFFF02007#32 = .instr (.flw 0#5 0#5 (-1#64)) := by decide
theorem test_decode_fld : decode 0x7FFFBF87#32 = .instr (.fld 31#5 31#5 2047#64) := by decide
theorem test_decode_fsw : decode 0x02002027#32 = .instr (.fsw 0#5 0#5 32#64) := by decide
theorem test_decode_fsd : decode 0x80003027#32 = .instr (.fsd 0#5 0#5 (-2048#64)) := by decide
theorem test_decode_lrW : decode 0x1005A52F#32 = .instr (.lrW 10#5 11#5 0#2) := by decide
theorem test_decode_scW : decode 0x1AC5A52F#32 = .instr (.scW 10#5 11#5 12#5 1#2) := by decide
theorem test_decode_amoswapW : decode 0x0CC5A52F#32 = .instr (.amoswapW 10#5 11#5 12#5 2#2) := by decide
theorem test_decode_amoaddW : decode 0x06C5A52F#32 = .instr (.amoaddW 10#5 11#5 12#5 3#2) := by decide
theorem test_decode_amoxorW : decode 0x20C5A52F#32 = .instr (.amoxorW 10#5 11#5 12#5 0#2) := by decide
theorem test_decode_amoandW : decode 0x62C5A52F#32 = .instr (.amoandW 10#5 11#5 12#5 1#2) := by decide
theorem test_decode_amoorW : decode 0x44C5A52F#32 = .instr (.amoorW 10#5 11#5 12#5 2#2) := by decide
theorem test_decode_amominW : decode 0x86C5A52F#32 = .instr (.amominW 10#5 11#5 12#5 3#2) := by decide
theorem test_decode_amomaxW : decode 0xA0C5A52F#32 = .instr (.amomaxW 10#5 11#5 12#5 0#2) := by decide
theorem test_decode_amominuW : decode 0xC2C5A52F#32 = .instr (.amominuW 10#5 11#5 12#5 1#2) := by decide
theorem test_decode_amomaxuW : decode 0xE4C5A52F#32 = .instr (.amomaxuW 10#5 11#5 12#5 2#2) := by decide
theorem test_decode_lrD : decode 0x1605B52F#32 = .instr (.lrD 10#5 11#5 3#2) := by decide
theorem test_decode_scD : decode 0x18C5B52F#32 = .instr (.scD 10#5 11#5 12#5 0#2) := by decide
theorem test_decode_amoswapD : decode 0x0AC5B52F#32 = .instr (.amoswapD 10#5 11#5 12#5 1#2) := by decide
theorem test_decode_amoaddD : decode 0x04C5B52F#32 = .instr (.amoaddD 10#5 11#5 12#5 2#2) := by decide
theorem test_decode_amoxorD : decode 0x26C5B52F#32 = .instr (.amoxorD 10#5 11#5 12#5 3#2) := by decide
theorem test_decode_amoandD : decode 0x60C5B52F#32 = .instr (.amoandD 10#5 11#5 12#5 0#2) := by decide
theorem test_decode_amoorD : decode 0x42C5B52F#32 = .instr (.amoorD 10#5 11#5 12#5 1#2) := by decide
theorem test_decode_amominD : decode 0x84C5B52F#32 = .instr (.amominD 10#5 11#5 12#5 2#2) := by decide
theorem test_decode_amomaxD : decode 0xA6C5B52F#32 = .instr (.amomaxD 10#5 11#5 12#5 3#2) := by decide
theorem test_decode_amominuD : decode 0xC0C5B52F#32 = .instr (.amominuD 10#5 11#5 12#5 0#2) := by decide
theorem test_decode_amomaxuD : decode 0xE2C5B52F#32 = .instr (.amomaxuD 10#5 11#5 12#5 1#2) := by decide
theorem test_decode_fmaddS : decode 0xB15A0543#32 = .instr (.fmaddS 10#5 20#5 21#5 22#5 0#3) := by decide
theorem test_decode_fmsubS : decode 0xB95A15C7#32 = .instr (.fmsubS 11#5 20#5 21#5 23#5 1#3) := by decide
theorem test_decode_fnmsubS : decode 0xC15A264B#32 = .instr (.fnmsubS 12#5 20#5 21#5 24#5 2#3) := by decide
theorem test_decode_fnmaddS : decode 0xC95A36CF#32 = .instr (.fnmaddS 13#5 20#5 21#5 25#5 3#3) := by decide
theorem test_decode_fmaddD : decode 0xD35A4743#32 = .instr (.fmaddD 14#5 20#5 21#5 26#5 4#3) := by decide
theorem test_decode_fmsubD : decode 0xDB5A07C7#32 = .instr (.fmsubD 15#5 20#5 21#5 27#5 0#3) := by decide
theorem test_decode_fnmsubD : decode 0xE35A184B#32 = .instr (.fnmsubD 16#5 20#5 21#5 28#5 1#3) := by decide
theorem test_decode_fnmaddD : decode 0xEB5A28CF#32 = .instr (.fnmaddD 17#5 20#5 21#5 29#5 2#3) := by decide
theorem test_decode_faddS : decode 0x009403D3#32 = .instr (.faddS 7#5 8#5 9#5 0#3) := by decide
theorem test_decode_fsubS : decode 0x089413D3#32 = .instr (.fsubS 7#5 8#5 9#5 1#3) := by decide
theorem test_decode_fmulS : decode 0x109423D3#32 = .instr (.fmulS 7#5 8#5 9#5 2#3) := by decide
theorem test_decode_fdivS : decode 0x189433D3#32 = .instr (.fdivS 7#5 8#5 9#5 3#3) := by decide
theorem test_decode_fsqrtS : decode 0x580443D3#32 = .instr (.fsqrtS 7#5 8#5 4#3) := by decide
theorem test_decode_fsgnjS : decode 0x209403D3#32 = .instr (.fsgnjS 7#5 8#5 9#5) := by decide
theorem test_decode_fsgnjnS : decode 0x209413D3#32 = .instr (.fsgnjnS 7#5 8#5 9#5) := by decide
theorem test_decode_fsgnjxS : decode 0x209423D3#32 = .instr (.fsgnjxS 7#5 8#5 9#5) := by decide
theorem test_decode_fminS : decode 0x289403D3#32 = .instr (.fminS 7#5 8#5 9#5) := by decide
theorem test_decode_fmaxS : decode 0x289413D3#32 = .instr (.fmaxS 7#5 8#5 9#5) := by decide
theorem test_decode_fcvtWS : decode 0xC00403D3#32 = .instr (.fcvtWS 7#5 8#5 0#3) := by decide
theorem test_decode_fcvtWuS : decode 0xC01413D3#32 = .instr (.fcvtWuS 7#5 8#5 1#3) := by decide
theorem test_decode_fcvtLS : decode 0xC02423D3#32 = .instr (.fcvtLS 7#5 8#5 2#3) := by decide
theorem test_decode_fcvtLuS : decode 0xC03433D3#32 = .instr (.fcvtLuS 7#5 8#5 3#3) := by decide
theorem test_decode_fmvXW : decode 0xE00403D3#32 = .instr (.fmvXW 7#5 8#5) := by decide
theorem test_decode_fclassS : decode 0xE00413D3#32 = .instr (.fclassS 7#5 8#5) := by decide
theorem test_decode_feqS : decode 0xA09423D3#32 = .instr (.feqS 7#5 8#5 9#5) := by decide
theorem test_decode_fltS : decode 0xA09413D3#32 = .instr (.fltS 7#5 8#5 9#5) := by decide
theorem test_decode_fleS : decode 0xA09403D3#32 = .instr (.fleS 7#5 8#5 9#5) := by decide
theorem test_decode_fcvtSW : decode 0xD00443D3#32 = .instr (.fcvtSW 7#5 8#5 4#3) := by decide
theorem test_decode_fcvtSWu : decode 0xD01403D3#32 = .instr (.fcvtSWu 7#5 8#5 0#3) := by decide
theorem test_decode_fcvtSL : decode 0xD02413D3#32 = .instr (.fcvtSL 7#5 8#5 1#3) := by decide
theorem test_decode_fcvtSLu : decode 0xD03423D3#32 = .instr (.fcvtSLu 7#5 8#5 2#3) := by decide
theorem test_decode_fmvWX : decode 0xF00403D3#32 = .instr (.fmvWX 7#5 8#5) := by decide
theorem test_decode_fcvtSD : decode 0x401443D3#32 = .instr (.fcvtSD 7#5 8#5 4#3) := by decide
theorem test_decode_faddD : decode 0x029403D3#32 = .instr (.faddD 7#5 8#5 9#5 0#3) := by decide
theorem test_decode_fsubD : decode 0x0A9413D3#32 = .instr (.fsubD 7#5 8#5 9#5 1#3) := by decide
theorem test_decode_fmulD : decode 0x129423D3#32 = .instr (.fmulD 7#5 8#5 9#5 2#3) := by decide
theorem test_decode_fdivD : decode 0x1A9433D3#32 = .instr (.fdivD 7#5 8#5 9#5 3#3) := by decide
theorem test_decode_fsqrtD : decode 0x5A0443D3#32 = .instr (.fsqrtD 7#5 8#5 4#3) := by decide
theorem test_decode_fsgnjD : decode 0x229403D3#32 = .instr (.fsgnjD 7#5 8#5 9#5) := by decide
theorem test_decode_fsgnjnD : decode 0x229413D3#32 = .instr (.fsgnjnD 7#5 8#5 9#5) := by decide
theorem test_decode_fsgnjxD : decode 0x229423D3#32 = .instr (.fsgnjxD 7#5 8#5 9#5) := by decide
theorem test_decode_fminD : decode 0x2A9403D3#32 = .instr (.fminD 7#5 8#5 9#5) := by decide
theorem test_decode_fmaxD : decode 0x2A9413D3#32 = .instr (.fmaxD 7#5 8#5 9#5) := by decide
theorem test_decode_fcvtWD : decode 0xC20403D3#32 = .instr (.fcvtWD 7#5 8#5 0#3) := by decide
theorem test_decode_fcvtWuD : decode 0xC21413D3#32 = .instr (.fcvtWuD 7#5 8#5 1#3) := by decide
theorem test_decode_fcvtLD : decode 0xC22423D3#32 = .instr (.fcvtLD 7#5 8#5 2#3) := by decide
theorem test_decode_fcvtLuD : decode 0xC23433D3#32 = .instr (.fcvtLuD 7#5 8#5 3#3) := by decide
theorem test_decode_fmvXD : decode 0xE20403D3#32 = .instr (.fmvXD 7#5 8#5) := by decide
theorem test_decode_fclassD : decode 0xE20413D3#32 = .instr (.fclassD 7#5 8#5) := by decide
theorem test_decode_feqD : decode 0xA29423D3#32 = .instr (.feqD 7#5 8#5 9#5) := by decide
theorem test_decode_fltD : decode 0xA29413D3#32 = .instr (.fltD 7#5 8#5 9#5) := by decide
theorem test_decode_fleD : decode 0xA29403D3#32 = .instr (.fleD 7#5 8#5 9#5) := by decide
theorem test_decode_fcvtDW : decode 0xD20443D3#32 = .instr (.fcvtDW 7#5 8#5 4#3) := by decide
theorem test_decode_fcvtDWu : decode 0xD21403D3#32 = .instr (.fcvtDWu 7#5 8#5 0#3) := by decide
theorem test_decode_fcvtDL : decode 0xD22413D3#32 = .instr (.fcvtDL 7#5 8#5 1#3) := by decide
theorem test_decode_fcvtDLu : decode 0xD23423D3#32 = .instr (.fcvtDLu 7#5 8#5 2#3) := by decide
theorem test_decode_fmvDX : decode 0xF20403D3#32 = .instr (.fmvDX 7#5 8#5) := by decide
theorem test_decode_fcvtDS : decode 0x420443D3#32 = .instr (.fcvtDS 7#5 8#5 4#3) := by decide
theorem test_decode_unimpLoad : decode 0xFFFFFF83#32 = .instr .unimpLoad := by decide
theorem test_decode_unimpCustom0 : decode 0xFFFFFF8B#32 = .instr .unimpCustom0 := by decide
theorem test_decode_unimpMiscMem : decode 0xFFFFFF8F#32 = .instr .unimpMiscMem := by decide
theorem test_decode_unimpOpImm : decode 0xFFFFFF93#32 = .instr .unimpOpImm := by decide
theorem test_decode_unimpAuipc : decode 0xFFFFFF97#32 = .instr .unimpAuipc := by decide
theorem test_decode_unimpOpImm32 : decode 0xFFFFFF9B#32 = .instr .unimpOpImm32 := by decide
theorem test_decode_unimpStore : decode 0xFFFFFFA3#32 = .instr .unimpStore := by decide
theorem test_decode_unimpCustom1 : decode 0xFFFFFFAB#32 = .instr .unimpCustom1 := by decide
theorem test_decode_unimpOp : decode 0xFFFFFFB3#32 = .instr .unimpOp := by decide
theorem test_decode_unimpLui : decode 0xFFFFFFB7#32 = .instr .unimpLui := by decide
theorem test_decode_unimpOp32 : decode 0xFFFFFFBB#32 = .instr .unimpOp32 := by decide
theorem test_decode_unimpOpV : decode 0xFFFFFFD7#32 = .instr .unimpOpV := by decide
theorem test_decode_unimpCustom2 : decode 0xFFFFFFDB#32 = .instr .unimpCustom2 := by decide
theorem test_decode_unimpBranch : decode 0xFFFFFFE3#32 = .instr .unimpBranch := by decide
theorem test_decode_unimpJalr : decode 0xFFFFFFE7#32 = .instr .unimpJalr := by decide
theorem test_decode_unimpReserved : decode 0xFFFFFFEB#32 = .instr .unimpReserved := by decide
theorem test_decode_unimpJal : decode 0xFFFFFFEF#32 = .instr .unimpJal := by decide
theorem test_decode_unimpSystem : decode 0xFFFFFFF3#32 = .instr .unimpSystem := by decide
theorem test_decode_unimpOpP : decode 0xFFFFFFF7#32 = .instr .unimpOpP := by decide
theorem test_decode_unimpCustom3 : decode 0xFFFFFFFB#32 = .instr .unimpCustom3 := by decide

/-! ### Corner vectors: every immediate bit alone, extremes, reserved rounding modes (95_test_vectors.md 3.1 to 3.7) -/

theorem test_corner_upperHalf_1 :
    decode 0xFFFF2000#32 = .instr (.cFld 8#5 8#5 0#64) ∧
    decode 0x20002402#32 = .instr (.cFldsp 8#5 0#64) := by
  decide
theorem test_corner_compressed_1 :
    decode 0x00002000#32 = .instr (.cFld 8#5 8#5 0#64) ∧
    decode 0x00002400#32 = .instr (.cFld 8#5 8#5 8#64) ∧
    decode 0x00002800#32 = .instr (.cFld 8#5 8#5 16#64) ∧
    decode 0x00003000#32 = .instr (.cFld 8#5 8#5 32#64) ∧
    decode 0x00002020#32 = .instr (.cFld 8#5 8#5 64#64) ∧
    decode 0x00002040#32 = .instr (.cFld 8#5 8#5 128#64) := by
  decide
theorem test_corner_compressed_2 :
    decode 0x00002084#32 = .instr (.cFld 9#5 9#5 0#64) ∧
    decode 0x0000A000#32 = .instr (.cFsd 8#5 8#5 0#64) ∧
    decode 0x0000BFFC#32 = .instr (.cFsd 15#5 15#5 248#64) ∧
    decode 0x00002402#32 = .instr (.cFldsp 8#5 0#64) ∧
    decode 0x00002002#32 = .instr (.cFldsp 0#5 0#64) ∧
    decode 0x00002022#32 = .instr (.cFldsp 0#5 8#64) := by
  decide
theorem test_corner_compressed_3 :
    decode 0x00002042#32 = .instr (.cFldsp 0#5 16#64) ∧
    decode 0x00003002#32 = .instr (.cFldsp 0#5 32#64) ∧
    decode 0x00002006#32 = .instr (.cFldsp 0#5 64#64) ∧
    decode 0x0000200A#32 = .instr (.cFldsp 0#5 128#64) ∧
    decode 0x00002012#32 = .instr (.cFldsp 0#5 256#64) ∧
    decode 0x000024A2#32 = .instr (.cFldsp 9#5 8#64) := by
  decide
theorem test_corner_compressed_4 :
    decode 0x0000A002#32 = .instr (.cFsdsp 0#5 0#64) ∧
    decode 0x0000A07E#32 = .instr (.cFsdsp 31#5 0#64) ∧
    decode 0x0000A402#32 = .instr (.cFsdsp 0#5 8#64) ∧
    decode 0x0000B002#32 = .instr (.cFsdsp 0#5 32#64) ∧
    decode 0x0000A082#32 = .instr (.cFsdsp 0#5 64#64) ∧
    decode 0x0000A202#32 = .instr (.cFsdsp 0#5 256#64) := by
  decide
theorem test_corner_loadStore_1 :
    decode 0x00012087#32 = .instr (.flw 1#5 2#5 0#64) ∧
    decode 0xFF813087#32 = .instr (.fld 1#5 2#5 (-8#64)) ∧
    decode 0x80002007#32 = .instr (.flw 0#5 0#5 (-2048#64)) ∧
    decode 0xFE113827#32 = .instr (.fsd 2#5 1#5 (-16#64)) ∧
    decode 0x00552227#32 = .instr (.fsw 10#5 5#5 4#64) ∧
    decode 0xFE003FA7#32 = .instr (.fsd 0#5 0#5 (-1#64)) := by
  decide
theorem test_corner_amo_1 :
    decode 0x100120AF#32 = .instr (.lrW 1#5 2#5 0#2) ∧
    decode 0x1603B2AF#32 = .instr (.lrD 5#5 7#5 3#2) ∧
    decode 0x1A63A2AF#32 = .instr (.scW 5#5 7#5 6#5 1#2) ∧
    decode 0x1C63A2AF#32 = .instr (.scW 5#5 7#5 6#5 2#2) ∧
    decode 0x0663B2AF#32 = .instr (.amoaddD 5#5 7#5 6#5 3#2) ∧
    decode 0xE000202F#32 = .instr (.amomaxuW 0#5 0#5 0#5 0#2) := by
  decide
theorem test_corner_amo_2 :
    decode 0xE7FFAFAF#32 = .instr (.amomaxuW 31#5 31#5 31#5 3#2) := by
  decide
theorem test_corner_fma_1 :
    decode 0x203100C3#32 = .instr (.fmaddS 1#5 2#5 3#5 4#5 0#3) ∧
    decode 0x203150C3#32 = .instr (.fmaddS 1#5 2#5 3#5 4#5 5#3) ∧
    decode 0x203160C3#32 = .instr (.fmaddS 1#5 2#5 3#5 4#5 6#3) ∧
    decode 0x0000004F#32 = .instr (.fnmaddS 0#5 0#5 0#5 0#5 0#3) ∧
    decode 0xFBFFEFCF#32 = .instr (.fnmaddD 31#5 31#5 31#5 31#5 6#3) ∧
    decode 0x223170C3#32 = .instr (.fmaddD 1#5 2#5 3#5 4#5 7#3) := by
  decide
theorem test_corner_single_1 :
    decode 0x003202D3#32 = .instr (.faddS 5#5 4#5 3#5 0#3) ∧
    decode 0x003252D3#32 = .instr (.faddS 5#5 4#5 3#5 5#3) ∧
    decode 0x58010053#32 = .instr (.fsqrtS 0#5 2#5 0#3) ∧
    decode 0x203100D3#32 = .instr (.fsgnjS 1#5 2#5 3#5) ∧
    decode 0x283110D3#32 = .instr (.fmaxS 1#5 2#5 3#5) ∧
    decode 0xE00100D3#32 = .instr (.fmvXW 1#5 2#5) := by
  decide
theorem test_corner_single_2 :
    decode 0xE00110D3#32 = .instr (.fclassS 1#5 2#5) ∧
    decode 0xA03120D3#32 = .instr (.feqS 1#5 2#5 3#5) ∧
    decode 0x40110053#32 = .instr (.fcvtSD 0#5 2#5 0#3) ∧
    decode 0xF00100D3#32 = .instr (.fmvWX 1#5 2#5) := by
  decide
theorem test_corner_double_1 :
    decode 0x02C5F553#32 = .instr (.faddD 10#5 11#5 12#5 7#3) ∧
    decode 0x5A05F553#32 = .instr (.fsqrtD 10#5 11#5 7#3) ∧
    decode 0x42058553#32 = .instr (.fcvtDS 10#5 11#5 0#3) ∧
    decode 0xE2058553#32 = .instr (.fmvXD 10#5 11#5) ∧
    decode 0xE2059553#32 = .instr (.fclassD 10#5 11#5) ∧
    decode 0xF2058553#32 = .instr (.fmvDX 10#5 11#5) := by
  decide
theorem test_corner_double_2 :
    decode 0xD225F553#32 = .instr (.fcvtDL 10#5 11#5 7#3) := by
  decide

/-! ### Words without operands, and illegal words (95_test_vectors.md 3.1 to 3.7) -/

/-- Whether every word of a list is answered with the tag and the length. -/
def answered (op : Opcode) (n : BitVec 3) (ws : List Word) : Bool :=
  ws.all fun w => decide ((decodeRecord w).opcode = op ∧ (decodeRecord w).length = n)

theorem test_unimplemented_length2 : answered .unimplemented 2#3
      [0x00000000#32, 0x00000001#32, 0x00000002#32, 0x0000FFFC#32, 0x0000FFFD#32, 0x0000FFFE#32] = true := by
  decide
theorem test_unimplemented_length4 : answered .unimplemented 4#3
      [0x00000003#32, 0x00000013#32, 0x00000017#32, 0x0000006F#32, 0x00000073#32, 0x0000000F#32,
       0x00000057#32, 0x0000000B#32, 0x0000006B#32, 0x00000077#32, 0x0000007B#32] = true := by
  decide
theorem test_illegal_reservedLong : answered .illegal 2#3
      [0x0000001F#32, 0x0000003F#32, 0x0000007F#32, 0x0000FFFF#32, 0xFFFFFFFF#32] = true := by
  decide
theorem test_illegal_loadStore : answered .illegal 4#3
      [0x00011087#32, 0x00014087#32, 0x00010087#32, 0x00017087#32, 0x00011027#32, 0x00016027#32] = true := by
  decide
theorem test_illegal_amo : answered .illegal 4#3
      [0x101120AF#32, 0x11F120AF#32, 0x1010B0AF#32, 0x0000002F#32, 0x003140AF#32, 0x0000702F#32,
       0x280120AF#32, 0xF800202F#32] = true := by
  decide
theorem test_illegal_fma : answered .illegal 4#3
      [0x243170C3#32, 0x263170C3#32, 0x0E21824F#32] = true := by
  decide
theorem test_illegal_single : answered .illegal 4#3
      [0x58110053#32, 0x203130D3#32, 0x283120D3#32, 0xE00120D3#32, 0xE01100D3#32, 0xA03130D3#32,
       0xC04100D3#32, 0x40010053#32, 0xF00110D3#32, 0x043100D3#32, 0x38000053#32, 0xFE000053#32] = true := by
  decide
theorem test_illegal_double : answered .illegal 4#3
      [0x5A15F553#32, 0x42110053#32, 0xD245F553#32, 0x063100D3#32, 0x3A0100D3#32] = true := by
  decide

/-! ### The encoder, on the words that the rules print (41 to 46, 30_encoding.md) -/

theorem test_encode_compressed :
    encode (.cFld 9#5 10#5 248#64) = 0x3D64#32 ∧ encode (.cFsd 8#5 15#5 8#64) = 0xA41C#32 ∧
    encode (.cFldsp 1#5 8#64) = 0x20A2#32 ∧ encode (.cFsdsp 3#5 16#64) = 0xA80E#32 := by decide

theorem test_encode_loadStore :
    encode (.flw 31#5 31#5 2047#64) = 0x7FFFAF87#32 ∧ encode (.fld 1#5 2#5 (-8#64)) = 0xFF813087#32 ∧
    encode (.fsw 2#5 10#5 4#64) = 0x00A12227#32 ∧ encode (.fsd 2#5 1#5 (-16#64)) = 0xFE113827#32 := by decide

theorem test_encode_amo_fma :
    encode (.lrD 10#5 10#5 3#2) = 0x1605352F#32 ∧ encode (.scW 5#5 7#5 6#5 2#2) = 0x1C63A2AF#32 ∧
    encode (.fmaddS 1#5 2#5 3#5 4#5 0#3) = 0x203100C3#32 ∧
    encode (.fnmaddD 31#5 31#5 31#5 31#5 6#3) = 0xFBFFEFCF#32 := by decide

theorem test_encode_opFp :
    encode (.faddS 1#5 2#5 3#5 7#3) = 0x003170D3#32 ∧ encode (.fsgnjxS 1#5 2#5 3#5) = 0x203120D3#32 ∧
    encode (.fcvtLuS 1#5 2#5 7#3) = 0xC03170D3#32 ∧ encode (.fmvDX 10#5 11#5) = 0xF2058553#32 := by decide

/-- The bytes of `fadd.s f5, f4, f3` in instruction memory, as 95_test_vectors.md Program 3 prints them. -/
theorem test_encodeBytes : encodeBytes (.faddS 5#5 4#5 3#5 0#3) = [0xD3#8, 0x02#8, 0x32#8, 0x00#8] := by decide

/-- 30_encoding.md R105: the words of the table's numbering, a compressed row in 16 bits. -/
theorem test_decodeTableWord :
    decodeTableWord 16 0x2000 = some (.cFld 8#5 8#5 0#64) ∧ decodeTableWord 32 0x003202D3 = some (.faddS 5#5 4#5 3#5 0#3) ∧
    decodeTableWord 32 0x101120AF = none := by decide

/-! ### Single steps -/

/-- Reset places nothing: the first step's fetch supplies no word (60_exceptions.md R326; log entry 6). -/
theorem test_step_reset_empty : faultOf (step State.reset) = some .fetchAccess := by decide

/-- Program 1, first line: `c.fldsp f8, 0(sp)` at 0x80000000, the next instruction's parcel above it. -/
theorem test_step_program1 :
    (nextOf (step (loaded 0x80000000 [0x02#8, 0x24#8, 0xA2#8, 0x24#8]))).map
      (fun t => (t.insn, t.out.opcode, t.out.rd, t.out.rs1, t.out.imm, t.pc)) =
    some (0x24A22402#32, .fld, 8#5, 2#5, 0#64, 0x80000002#64) := by decide

/-- Program 2: `lr.d.aq x10, (x11)` at 0x10000, then OP-IMM at 0x10004 answered `unimplemented`, length 4. -/
theorem test_step_program2_lr :
    (nextOf (step (loaded 0x10000 [0x2F#8, 0xB5#8, 0x05#8, 0x14#8]))).map
      (fun t => (t.out.opcode, t.out.rd, t.out.rs1, t.out.rs2, t.out.imm, t.pc)) =
    some (.lr_d, 10#5, 11#5, 0#5, 2#64, 0x10004#64) := by decide

theorem test_step_program2_delegated :
    (nextOf (step (loaded 0x10004 [0x13#8, 0x05#8, 0x15#8, 0x00#8]))).map (fun t => (t.out.opcode, t.out.length, t.pc)) =
      some (.unimplemented, 4#3, 0x10008#64) ∧
    refusalOf (step (acting (loaded 0x10004 [0x13#8, 0x05#8, 0x15#8, 0x00#8]))) = some .unimplementedRecord := by decide

/-- Program 3: the reserved long parcel at 0x1004 gives length 2; a caller that acts takes the trap with cause 2, the
pc in mepc and the parcel in mtval (its execution end state). -/
theorem test_step_program3_long :
    (nextOf (step (loaded 0x1004 [0x1F#8, 0x00#8, 0x00#8, 0x20#8]))).map
      (fun t => (t.insn, t.out.opcode, t.out.length, t.pc)) =
    some (0x2000001F#32, .illegal, 2#3, 0x1006#64) := by decide

theorem test_step_program3_trap :
    (nextOf (step (acting (loaded 0x1004 [0x1F#8, 0x00#8, 0x00#8, 0x20#8])))).map
      (fun t => (t.mcause, t.mepc, t.mtval)) =
    some (2#64, 0x1004#64, 0x1F#64) := by decide

/-- Program 3: the fused multiply-add of format 10 at 0x1008 is illegal with length 4; its trap value is the whole word
(60_exceptions.md R322). -/
theorem test_step_program3_fma :
    (nextOf (step (acting (loaded 0x1008 [0xC3#8, 0x70#8, 0x31#8, 0x24#8])))).map
      (fun t => (t.out.opcode, t.out.length, t.mtval)) =
    some (.illegal, 4#3, 0x243170C3#64) := by decide

/-- Program 4: `fmadd.d f2, f1, f1, f1` at 0x80000104. -/
theorem test_step_program4 :
    (nextOf (step (loaded 0x80000104 [0x43#8, 0x81#8, 0x10#8, 0x0A#8]))).map
      (fun t => (t.out.opcode, t.out.rd, t.out.rs1, t.out.rs2, t.out.rs3, t.out.rm)) =
    some (.fmadd_d, 2#5, 1#5, 1#5, 1#5, 0#3) := by decide

/-- Two bytes are enough for a compressed word, not for a standard one (20_memory.md R62). -/
theorem test_fetch_twoBytes :
    fetch (loaded 0x8000000C [0x2A#8, 0xAC#8]) = .ok (Config.upperHalf 0x8000000C#64 ++ 0xAC2A#16) ∧
    faultOf (step (loaded 0x1000 [0xD3#8, 0x02#8])) = some .fetchAccess := ⟨rfl, by decide⟩

/-- The placed word is the next one to run. -/
theorem test_withFetchWord :
    (nextOf (step (State.reset.withFetchWord 32 0x003202D3))).map (fun t => (t.out.opcode, t.pc)) =
      some (.fadd_s, 4#64) ∧
    (nextOf (step (State.reset.withFetchWord 16 0x2402))).map (fun t => (t.out.opcode, t.pc)) = some (.fld, 2#64) := by
  decide

/-! ### The caller's tables (10_state.md R40, R43; 20_memory.md R65; 30_encoding.md R93; 60_exceptions.md R324) -/

theorem test_defines :
    Opcode.defines .flw .rs2 = false ∧ Opcode.defines .fsd .rd = false ∧ Opcode.defines .lr_w .rs2 = true ∧
    Opcode.defines .amoadd_w .rm = false ∧ Opcode.defines .fmadd_s .imm = false ∧ Opcode.defines .fclass_d .rs3 = false ∧
    Opcode.defines .illegal .imm = true := by decide

theorem test_accessBytes :
    Opcode.accessBytes .flw = 4 ∧ Opcode.accessBytes .fsd = 8 ∧ Opcode.accessBytes .amoor_w = 4 ∧
    Opcode.accessBytes .sc_d = 8 ∧ Opcode.accessBytes .fadd_s = 0 := by decide

theorem test_regFile :
    Opcode.regFile .fld .rd = some .fp ∧ Opcode.regFile .fld .rs1 = some .integer ∧
    Opcode.regFile .amoadd_w .rd = some .integer ∧ Opcode.regFile .feq_s .rd = some .integer ∧
    Opcode.regFile .lr_w .rs2 = some .integer ∧ Opcode.regFile .lr_d .rs2 = some .integer ∧
    Opcode.regFile .fcvt_s_w .rs1 = some .integer ∧ Opcode.regFile .fsqrt_d .rs2 = none := by decide

theorem test_causes :
    Cause.raisedBy .loadPageFault .lr_d = true ∧ Cause.raisedBy .storeAmoAccessFault .sc_w = true ∧
    Cause.raisedBy .breakpoint .flw = false ∧ Cause.code .storeAmoPageFault = 15#64 := by decide

theorem test_roundingMode : roundingMode 0b111#3 = .dyn ∧ roundingMode 0b101#3 = .reserved := by decide

/-- 10_state.md R36: a code of the opcode type that meets the three laws exists. -/
theorem test_opcodeCode : Nonempty OpcodeCode :=
  ⟨{ width := 7, code := fun o => BitVec.ofNat 7 o.ctorIdx, atLeastSeven := le_refl 7,
     injective := fun a b => by cases a <;> cases b <;> first | (intro _; rfl) | (intro h; exact absurd h (by decide)),
     illegalIsZero := rfl }⟩

/-! ### Witnesses: hypotheses that can be met, each clause, at the ends of its range -/

/-- The first and the last word of a row meet its hypothesis. -/
def met (m v : Word) : Bool := decide (v &&& m = v) && decide ((v ||| ~~~m) &&& m = v)

theorem test_witness_CompressedFpRecords :
    [met 0x0000E003#32 0x00002000#32, met 0x0000E003#32 0x0000A000#32, met 0x0000E003#32 0x00002002#32,
     met 0x0000E003#32 0x0000A002#32].all id = true := by
  decide

theorem test_witness_FpLoadStoreRecords :
    [met 0x0000707F#32 0x00002007#32, met 0x0000707F#32 0x00003007#32, met 0x0000707F#32 0x00002027#32,
     met 0x0000707F#32 0x00003027#32].all id = true := by
  decide

theorem test_witness_AmoWordRecords :
    [met 0xF9F0707F#32 0x1000202F#32, met 0xF800707F#32 0x1800202F#32, met 0xF800707F#32 0x0800202F#32,
     met 0xF800707F#32 0x0000202F#32, met 0xF800707F#32 0x2000202F#32, met 0xF800707F#32 0x6000202F#32,
     met 0xF800707F#32 0x4000202F#32, met 0xF800707F#32 0x8000202F#32, met 0xF800707F#32 0xA000202F#32,
     met 0xF800707F#32 0xC000202F#32, met 0xF800707F#32 0xE000202F#32].all id = true := by
  decide

theorem test_witness_AmoDoublewordRecords :
    [met 0xF9F0707F#32 0x1000302F#32, met 0xF800707F#32 0x1800302F#32, met 0xF800707F#32 0x0800302F#32,
     met 0xF800707F#32 0x0000302F#32, met 0xF800707F#32 0x2000302F#32, met 0xF800707F#32 0x6000302F#32,
     met 0xF800707F#32 0x4000302F#32, met 0xF800707F#32 0x8000302F#32, met 0xF800707F#32 0xA000302F#32,
     met 0xF800707F#32 0xC000302F#32, met 0xF800707F#32 0xE000302F#32].all id = true := by
  decide

theorem test_witness_FmaRecords :
    [met 0x0600007F#32 0x00000043#32, met 0x0600007F#32 0x00000047#32, met 0x0600007F#32 0x0000004B#32,
     met 0x0600007F#32 0x0000004F#32, met 0x0600007F#32 0x02000043#32, met 0x0600007F#32 0x02000047#32,
     met 0x0600007F#32 0x0200004B#32, met 0x0600007F#32 0x0200004F#32].all id = true := by
  decide

theorem test_witness_OpFpSingleArithmeticRecords :
    [met 0xFE00007F#32 0x00000053#32, met 0xFE00007F#32 0x08000053#32, met 0xFE00007F#32 0x10000053#32,
     met 0xFE00007F#32 0x18000053#32, met 0xFFF0007F#32 0x58000053#32, met 0xFE00707F#32 0x20000053#32,
     met 0xFE00707F#32 0x20001053#32, met 0xFE00707F#32 0x20002053#32, met 0xFE00707F#32 0x28000053#32,
     met 0xFE00707F#32 0x28001053#32].all id = true := by
  decide

theorem test_witness_OpFpSingleConversionRecords :
    [met 0xFFF0007F#32 0xC0000053#32, met 0xFFF0007F#32 0xC0100053#32, met 0xFFF0007F#32 0xC0200053#32,
     met 0xFFF0007F#32 0xC0300053#32, met 0xFFF0007F#32 0xD0000053#32, met 0xFFF0007F#32 0xD0100053#32,
     met 0xFFF0007F#32 0xD0200053#32, met 0xFFF0007F#32 0xD0300053#32, met 0xFFF0007F#32 0x40100053#32].all id = true := by
  decide

theorem test_witness_OpFpSingleMoveCompareRecords :
    [met 0xFFF0707F#32 0xE0000053#32, met 0xFFF0707F#32 0xE0001053#32, met 0xFE00707F#32 0xA0002053#32,
     met 0xFE00707F#32 0xA0001053#32, met 0xFE00707F#32 0xA0000053#32, met 0xFFF0707F#32 0xF0000053#32].all id = true := by
  decide

theorem test_witness_OpFpDoubleArithmeticRecords :
    [met 0xFE00007F#32 0x02000053#32, met 0xFE00007F#32 0x0A000053#32, met 0xFE00007F#32 0x12000053#32,
     met 0xFE00007F#32 0x1A000053#32, met 0xFFF0007F#32 0x5A000053#32, met 0xFE00707F#32 0x22000053#32,
     met 0xFE00707F#32 0x22001053#32, met 0xFE00707F#32 0x22002053#32, met 0xFE00707F#32 0x2A000053#32,
     met 0xFE00707F#32 0x2A001053#32].all id = true := by
  decide

theorem test_witness_OpFpDoubleConversionRecords :
    [met 0xFFF0007F#32 0xC2000053#32, met 0xFFF0007F#32 0xC2100053#32, met 0xFFF0007F#32 0xC2200053#32,
     met 0xFFF0007F#32 0xC2300053#32, met 0xFFF0007F#32 0xD2000053#32, met 0xFFF0007F#32 0xD2100053#32,
     met 0xFFF0007F#32 0xD2200053#32, met 0xFFF0007F#32 0xD2300053#32, met 0xFFF0007F#32 0x42000053#32].all id = true := by
  decide

theorem test_witness_OpFpDoubleMoveCompareRecords :
    [met 0xFFF0707F#32 0xE2000053#32, met 0xFFF0707F#32 0xE2001053#32, met 0xFE00707F#32 0xA2002053#32,
     met 0xFE00707F#32 0xA2001053#32, met 0xFE00707F#32 0xA2000053#32, met 0xFFF0707F#32 0xF2000053#32].all id = true := by
  decide

/-- The word meets the hypothesis of a selector mismatch for this `funct7`, of which `bad` is the third part. -/
def mismatch (w : Word) (funct7 : BitVec 7) (bad : Bool) : Bool :=
  decide (w.extractLsb 6 0 = 0b1010011#7) && decide (w.extractLsb 31 25 = funct7) && bad

theorem test_witness_OpFpSingle_mismatch :
    [mismatch 0x581170D3#32 0b0101100#7 ((0x581170D3#32).extractLsb 24 20 != 0#5),
     mismatch 0x203130D3#32 0b0010000#7 ((0x203130D3#32).extractLsb 14 12 == 3#3),
     mismatch 0x283120D3#32 0b0010100#7 ((0x283120D3#32).extractLsb 14 12 == 2#3),
     mismatch 0xC04170D3#32 0b1100000#7 ((0xC04170D3#32).extractLsb 24 20 == 4#5),
     mismatch 0xD1F170D3#32 0b1101000#7 ((0xD1F170D3#32).extractLsb 24 20 == 31#5),
     mismatch 0x400170D3#32 0b0100000#7 ((0x400170D3#32).extractLsb 24 20 != 1#5),
     mismatch 0xE00120D3#32 0b1110000#7 ((0xE00120D3#32).extractLsb 14 12 == 2#3),
     mismatch 0xF00110D3#32 0b1111000#7 ((0xF00110D3#32).extractLsb 14 12 != 0#3),
     mismatch 0xA03130D3#32 0b1010000#7 ((0xA03130D3#32).extractLsb 14 12 == 3#3)].all id = true := by decide

theorem test_witness_OpFpDouble_mismatch :
    [mismatch 0x5A15F553#32 0b0101101#7 ((0x5A15F553#32).extractLsb 24 20 != 0#5),
     mismatch 0x22C5B553#32 0b0010001#7 ((0x22C5B553#32).extractLsb 14 12 == 3#3),
     mismatch 0x2AC5A553#32 0b0010101#7 ((0x2AC5A553#32).extractLsb 14 12 == 2#3),
     mismatch 0xC245F553#32 0b1100001#7 ((0xC245F553#32).extractLsb 24 20 == 4#5),
     mismatch 0xD245F553#32 0b1101001#7 ((0xD245F553#32).extractLsb 24 20 == 4#5),
     mismatch 0x4215F553#32 0b0100001#7 ((0x4215F553#32).extractLsb 24 20 != 0#5),
     mismatch 0xE205A553#32 0b1110001#7 ((0xE205A553#32).extractLsb 14 12 == 2#3),
     mismatch 0xF2059553#32 0b1111001#7 ((0xF2059553#32).extractLsb 14 12 != 0#3),
     mismatch 0xA2C5B553#32 0b1010001#7 ((0xA2C5B553#32).extractLsb 14 12 == 3#3)].all id = true := by decide

theorem test_witness_FmaRecords_format :
    (0x243170C3#32).extractLsb 6 0 ∈ [0b1000011#7, 0b1000111#7, 0b1001011#7, 0b1001111#7] ∧
    (0x243170C3#32).extractLsb 26 25 ∈ [0b10#2, 0b11#2] := by decide

theorem test_witness_AmoRecords_lr :
    (0x101120AF#32 &&& 0xF800707F#32 = 0x1000202F#32 ∧ (0x101120AF#32).extractLsb 24 20 ≠ 0#5) ∧
    (0x1FFFBFAF#32 &&& 0xF800707F#32 ≠ 0x1000202F#32) ∧
    (0x17FFBFAF#32 &&& 0xF800707F#32 = 0x1000302F#32 ∧ (0x17FFBFAF#32).extractLsb 24 20 ≠ 0#5) := by decide

theorem test_witness_DelegatedRowsAnswerUnimplemented : State.reset.policy = .continuePast := by decide

theorem test_witness_ReservedLongRowCompletes :
    State.reset.policy = .continuePast ∧ (acting State.reset).policy = .trapOrRefuse := by decide

theorem test_witness_LengthLaw :
    (0x00000000#32).extractLsb 1 0 ≠ 0b11#2 ∧ (0xFFFFFFFE#32).extractLsb 1 0 ≠ 0b11#2 ∧
    (0x0000001F#32).extractLsb 4 0 = 0b11111#5 ∧ (0xFFFFFFFF#32).extractLsb 4 0 = 0b11111#5 ∧
    ((0x00000003#32).extractLsb 1 0 = 0b11#2 ∧ (0x00000003#32).extractLsb 4 0 ≠ 0b11111#5) ∧
    ((0xFFFFFFFB#32).extractLsb 1 0 = 0b11#2 ∧ (0xFFFFFFFB#32).extractLsb 4 0 ≠ 0b11111#5) := by decide

theorem test_witness_IllegalExactlyInFiveCases_long : illegalWith 0xFFFFFFFF#32 2#3 := by decide
theorem test_witness_IllegalExactlyInFiveCases_loadStore :
    illegalWith 0x00011087#32 4#3 ∧ illegalWith 0x00016027#32 4#3 := by decide
theorem test_witness_IllegalExactlyInFiveCases_amoFma :
    illegalWith 0x101120AF#32 4#3 ∧ illegalWith 0x0E21824F#32 4#3 := by decide
theorem test_witness_IllegalExactlyInFiveCases_opFp : illegalWith 0xFE000053#32 4#3 := by decide

theorem test_witness_UnimplementedExactlyWhenDelegated :
    delegatedWith 0x00000000#32 2#3 ∧ delegatedWith 0xFFFFFFFE#32 2#3 ∧ delegatedWith 0x00000003#32 4#3 ∧
    delegatedWith 0xFFFFFFFB#32 4#3 := by decide

theorem test_witness_ReservedLongIsIllegal :
    (0x0000001F#32).extractLsb 4 0 = 0b11111#5 ∧ (0xFFFFFFFF#32).extractLsb 4 0 = 0b11111#5 := by decide

theorem test_witness_FpLoadStoreWidthMap :
    (0x00002007#32).extractLsb 6 0 = 0b0000111#7 ∧ (0xFFFFF027#32).extractLsb 6 0 = 0b0100111#7 ∧
    ((0x00007007#32).extractLsb 6 0 ∈ [0b0000111#7, 0b0100111#7] ∧
      (0x00007007#32).extractLsb 14 12 ∉ [0b010#3, 0b011#3]) ∧
    ((0x00000027#32).extractLsb 6 0 ∈ [0b0000111#7, 0b0100111#7] ∧
      (0x00000027#32).extractLsb 14 12 ∉ [0b010#3, 0b011#3]) := by decide

theorem test_witness_AmoIllegalExactly :
    ((0x0000002F#32).extractLsb 6 0 = 0b0101111#7 ∧ amoIllegal 0x0000002F#32) ∧
    ((0xF800202F#32).extractLsb 6 0 = 0b0101111#7 ∧ amoIllegal 0xF800202F#32) ∧
    ((0x11F120AF#32).extractLsb 6 0 = 0b0101111#7 ∧ amoIllegal 0x11F120AF#32) ∧
    ((0xE7FFAFAF#32).extractLsb 6 0 = 0b0101111#7 ∧ ¬ amoIllegal 0xE7FFAFAF#32) := by decide

theorem test_witness_FmaIllegalFormats :
    ((0x04000043#32).extractLsb 6 0 ∈ [0b1000011#7, 0b1000111#7, 0b1001011#7, 0b1001111#7] ∧
      (0x04000043#32).extractLsb 26 25 ∈ [0b10#2, 0b11#2]) ∧
    ((0xFFFFFFCF#32).extractLsb 6 0 ∈ [0b1000011#7, 0b1000111#7, 0b1001011#7, 0b1001111#7] ∧
      (0xFFFFFFCF#32).extractLsb 26 25 ∈ [0b10#2, 0b11#2]) ∧
    ((0xFBFFEFCF#32).extractLsb 6 0 ∈ [0b1000011#7, 0b1000111#7, 0b1001011#7, 0b1001111#7] ∧
      (0xFBFFEFCF#32).extractLsb 26 25 ∉ [0b10#2, 0b11#2]) := by decide

theorem test_witness_OpFpSingleIllegal :
    ((0x58110053#32).extractLsb 6 0 = 0b1010011#7 ∧ (0x58110053#32).extractLsb 26 25 = 0b00#2) ∧
    ((0x043100D3#32).extractLsb 6 0 = 0b1010011#7 ∧ (0x043100D3#32).extractLsb 26 25 ∈ [0b10#2, 0b11#2]) ∧
    ((0xFE000053#32).extractLsb 6 0 = 0b1010011#7 ∧ (0xFE000053#32).extractLsb 26 25 ∈ [0b10#2, 0b11#2]) := by decide

theorem test_witness_OpFpDoubleIllegal :
    (0x5A15F553#32).extractLsb 6 0 = 0b1010011#7 ∧ (0x5A15F553#32).extractLsb 26 25 = 0b01#2 := by decide

theorem test_witness_DoublePrecisionMirrorsSingle :
    ((0x003202D3#32).extractLsb 6 0 = 0b1010011#7 ∧ (0x003202D3#32).extractLsb 26 25 = 0b00#2 ∧
      0x023202D3#32 = 0x003202D3#32 ||| 0x02000000#32 ∧ (0x003202D3#32).extractLsb 31 27 ≠ 0b01000#5) ∧
    ((0x40110053#32).extractLsb 6 0 = 0b1010011#7 ∧ (0x40110053#32).extractLsb 26 25 = 0b00#2 ∧
      0x42110053#32 = 0x40110053#32 ||| 0x02000000#32 ∧ (0x40110053#32).extractLsb 31 27 = 0b01000#5) := by decide

theorem test_witness_RoundingModeIsCopied :
    (decodeRecord 0x203150C3#32).opcode.isFma = true ∧ (decodeRecord 0x003252D3#32).opcode.isOpFp = true ∧
    0x203170C3#32 &&& 0xFFFF8FFF#32 = 0x203150C3#32 &&& 0xFFFF8FFF#32 := by decide

theorem test_witness_OrderingBitsAreCarried :
    (decodeRecord 0x100120AF#32).opcode.isLr = true ∧ (decodeRecord 0xE7FFAFAF#32).opcode.isScOrAmo = true := by decide

theorem test_witness_UndefinedFieldsAreDontCare :
    (decodeRecord 0x00002000#32).opcode.defines .rs2 = false ∧ (decodeRecord 0xFE113827#32).opcode.defines .rd = false ∧
    (decodeRecord 0x100120AF#32).opcode.defines .rs3 = false ∧ (decodeRecord 0x203150C3#32).opcode.defines .imm = false ∧
    (decodeRecord 0x80002007#32).opcode.defines .rm = false := by decide

theorem test_witness_ImmediatesAndTheirRanges :
    ((decodeRecord 0x80002007#32).opcode.isLoad = true ∧ (decodeRecord 0x80002007#32).length = 4#3) ∧
    ((decodeRecord 0x7E62AFA7#32).opcode.isStore = true ∧ (decodeRecord 0x7E62AFA7#32).length = 4#3) ∧
    ((decodeRecord 0x00003D64#32).opcode.isLoad = true ∧ (0x00003D64#32).extractLsb 1 0 = 0b00#2) ∧
    ((decodeRecord 0x00003FFE#32).opcode.isLoad = true ∧ (0x00003FFE#32).extractLsb 1 0 = 0b10#2) ∧
    ((decodeRecord 0x0000BFFE#32).opcode.isStore = true ∧ (0x0000BFFE#32).extractLsb 1 0 = 0b10#2) := by decide

theorem test_witness_ExtractorMeetsItsContract :
    ((∀ e ∈ [BitRange.mk 31 20], e.valid = true) ∧ selectWidth [⟨31, 20⟩] + 0 ≤ 64) ∧
    ((∀ e ∈ [BitRange.mk 4 2, ⟨12, 12⟩, ⟨6, 5⟩], e.valid = true) ∧ 3 ≤ 3 ∧
      selectWidth [⟨4, 2⟩, ⟨12, 12⟩, ⟨6, 5⟩] + 3 ≤ 64) ∧
    ((∀ e ∈ [BitRange.mk 31 0, ⟨31, 0⟩], e.valid = true) ∧ selectWidth [⟨31, 0⟩, ⟨31, 0⟩] + 0 ≤ 64) := by decide

theorem test_witness_AccessWidthFollowsFunct3 :
    (decodeRecord 0x00002000#32).opcode.isInstruction = true ∧
    (decodeRecord 0xFE113827#32).opcode.isInstruction = true ∧
    (decodeRecord 0xFBFFEFCF#32).opcode.isInstruction = true := by decide

theorem test_witness_DecodeOfEncode :
    (Instr.cFsdsp 31#5 504#64).wf = true ∧ (Instr.fsd 31#5 31#5 (-2048#64)).wf = true ∧
    (Instr.amomaxuD 31#5 0#5 31#5 3#2).wf = true ∧ (Instr.fnmaddD 31#5 31#5 31#5 31#5 7#3).wf = true ∧
    (Instr.fcvtDLu 31#5 31#5 7#3).wf = true ∧ Instr.illegalLong.wf = true := by decide

theorem test_witness_EncodeOfDecode :
    decode 0xFFFF3FFE#32 = .instr (.cFldsp 31#5 504#64) ∧ decode 0xFFFFFFFF#32 = .instr .illegalLong ∧
    decode 0xFFFFFFFB#32 = .instr .unimpCustom3 := by decide

theorem test_witness_DecoderAgreesWithOpcodeTable : ∀ i : Instr, i.row.covers 0x101120AF#32 = false := by
  intro i
  cases i <;> (simp only [Instr.row]; decide)

theorem test_witness_UnreadBitsDoNotMatter :
    (0xFFFF2000#32).extractLsb 1 0 ≠ 0b11#2 ∧ (0xFFFFFFFE#32).extractLsb 1 0 ≠ 0b11#2 ∧
    ((0x0000001F#32).extractLsb 4 0 = 0b11111#5 ∧ (0xFFFFFFFF#32).extractLsb 4 0 = (0x0000001F#32).extractLsb 4 0) := by
  decide

theorem test_witness_DecodeIsTotal : State.reset.policy = .continuePast := by decide

/-- A state whose next step runs `fadd.s f5, f4, f3`, and one whose next step runs a reserved long word. -/
def addState : State := loaded 0x1000 [0xD3#8, 0x02#8, 0x32#8, 0x00#8]
def longState : State := loaded 0x1000 [0xFF#8, 0xFF#8, 0xFF#8, 0xFF#8]

/-- A state with two bytes of a reserved long word and nothing after them. -/
def shortState : State := loaded 0x1000 [0xFF#8, 0xFF#8]

theorem test_witness_BlockHoldsNoState : ∃ t, runWord 0x003202D3#32 State.reset = .next t := ⟨_, rfl⟩

theorem test_witness_ModeDoesNotMatterToDecode :
    (∃ t, step addState = .next t) ∧ ∃ t, step (acting longState) = .next t := ⟨⟨_, rfl⟩, ⟨_, rfl⟩⟩

theorem test_witness_ContinuingStepChangesOutputsAndPc :
    addState.policy = .continuePast ∧ ∃ t, step addState = .next t := ⟨rfl, ⟨_, rfl⟩⟩

theorem test_witness_OnlyIllegalTrapsWriteTrapState :
    (∃ t, step addState = .next t) ∧ ∃ t, step (acting longState) = .next t ∧ t.out.opcode = .illegal :=
  ⟨⟨_, rfl⟩, ⟨_, rfl, rfl⟩⟩

theorem test_witness_DecodedTagsDoNotTransferControl :
    (∃ t, step addState = .next t ∧ t.out.opcode.isInstruction = true) ∧
    ∃ t, step (acting addState) = .next t ∧ t.out.opcode.isInstruction = true := ⟨⟨_, rfl, rfl⟩, ⟨_, rfl, rfl⟩⟩

theorem test_witness_StepRunsDecodedInstruction :
    (addState.pcAligned ∧ bytesAt addState.mem addState.pc 0x003202D3#32 ∧
      decode 0x003202D3#32 = .instr (.faddS 5#5 4#5 3#5 0#3)) ∧
    (bytesAt (loaded 0xFFFFFFFFFFFFFFFC [0xAF#8, 0x20#8, 0x11#8, 0x10#8]).mem 0xFFFFFFFFFFFFFFFC#64 0x101120AF#32 ∧
      decode 0x101120AF#32 = .illegal .lrRs2) := by decide

theorem test_witness_EncodedInstructionRuns :
    ((Instr.faddS 5#5 4#5 3#5 0#3).wf = true ∧ addState.pcAligned ∧
      ∀ k : Nat, k < (Instr.faddS 5#5 4#5 3#5 0#3).size →
        readByte addState.mem (addState.pc + BitVec.ofNat 64 k) = (encodeBytes (.faddS 5#5 4#5 3#5 0#3))[k]?) ∧
    ((Instr.cFldsp 8#5 0#64).wf = true ∧ (loaded 0x1000 [0x02#8, 0x24#8]).pcAligned ∧
      ∀ k : Nat, k < (Instr.cFldsp 8#5 0#64).size →
        readByte (loaded 0x1000 [0x02#8, 0x24#8]).mem (0x1000#64 + BitVec.ofNat 64 k) =
          (encodeBytes (.cFldsp 8#5 0#64))[k]?) := by decide

theorem test_witness_TwoBytesAreEnough :
    (shortState.pcAligned ∧ shortState.policy = .continuePast ∧ readByte shortState.mem shortState.pc = some 0xFF#8 ∧
      readByte shortState.mem (shortState.pc + 1#64) = some 0xFF#8 ∧ (0x0000FFFF#32).extractLsb 15 0 = 0xFF#8 ++ 0xFF#8 ∧
      (0xFF#8).extractLsb 4 0 = 0b11111#5) ∧
    (readByte (loaded 0x1000 [0x02#8, 0x24#8]).mem 0x1000#64 = some 0x02#8 ∧
      (0xFFFF2402#32).extractLsb 15 0 = 0x24#8 ++ 0x02#8 ∧ (0x02#8).extractLsb 1 0 ≠ 0b11#2) := by decide

theorem test_witness_FetchFaultsWithoutAWord :
    (¬ (loaded 0x1001 [0x02#8, 0x24#8]).pcAligned) ∧
    (State.reset.pcAligned ∧ readByte State.reset.mem State.reset.pc = none) ∧
    ((loaded 0x1000 [0x02#8]).pcAligned ∧ readByte (loaded 0x1000 [0x02#8]).mem 0x1001#64 = none) ∧
    ((loaded 0x1000 [0xD3#8, 0x02#8, 0x32#8]).pcAligned ∧
      readByte (loaded 0x1000 [0xD3#8, 0x02#8, 0x32#8]).mem 0x1000#64 = some 0xD3#8 ∧
      (0xD3#8).extractLsb 1 0 = 0b11#2 ∧ (0xD3#8).extractLsb 4 0 ≠ 0b11111#5 ∧
      readByte (loaded 0x1000 [0xD3#8, 0x02#8, 0x32#8]).mem 0x1003#64 = none) := by decide

theorem test_witness_FetchFaultsWithoutAWord_twoBytes :
    (shortState.pcAligned ∧ readByte shortState.mem shortState.pc = some 0xFF#8 ∧
      readByte shortState.mem (shortState.pc + 1#64) = some 0xFF#8 ∧ (0xFF#8).extractLsb 4 0 = 0b11111#5 ∧
      readByte shortState.mem (shortState.pc + 2#64) = none) ∧
    ((loaded 0x1000 [0x02#8, 0x24#8]).pcAligned ∧ readByte (loaded 0x1000 [0x02#8, 0x24#8]).mem 0x1000#64 = some 0x02#8 ∧
      readByte (loaded 0x1000 [0x02#8, 0x24#8]).mem 0x1001#64 = some 0x24#8 ∧ (0x02#8).extractLsb 1 0 ≠ 0b11#2) := by
  decide

theorem test_witness_FetchFaultsWithoutAWord_fault : ∃ f, step State.reset = .fault f := ⟨_, rfl⟩

theorem test_witness_InputWordIsLittleEndian :
    ∃ t, step addState = .next t ∧ readByte addState.mem addState.pc = some 0xD3#8 ∧
      readByte addState.mem (addState.pc + 1#64) = some 0x02#8 ∧ t.out.length = 4#3 :=
  ⟨_, rfl, by decide, by decide, rfl⟩

theorem test_witness_IllegalRaisesIllegalInstruction :
    (acting State.reset).policy = .trapOrRefuse ∧
    ((decodeRecord 0x101120AF#32).opcode = .illegal ∧ (decodeRecord 0x101120AF#32).length = 4#3) ∧
    ((decodeRecord 0xFFFFFFFF#32).opcode = .illegal ∧ (decodeRecord 0xFFFFFFFF#32).length = 2#3) := by decide

theorem test_witness_TrapEntrySavesAndRedirects :
    (acting State.reset).policy = .trapOrRefuse ∧ (decodeRecord 0x101120AF#32).opcode = .illegal := by decide

theorem test_witness_UnimplementedIsRefused :
    (acting State.reset).policy = .trapOrRefuse ∧ (decodeRecord 0x00000000#32).opcode = .unimplemented ∧
    (decodeRecord 0xFFFFFFFB#32).opcode = .unimplemented := by decide

theorem test_witness_ActingCallerFollowsTable :
    (acting State.reset).policy = .trapOrRefuse ∧
    callerAction (decodeRecord 0xFFFFFFFF#32) 0xFFFFFFFF#32 = .raise .illegalInstruction 0xFFFF#64 ∧
    callerAction (decodeRecord 0x00000013#32) 0x00000013#32 = .refuse ∧
    callerAction (decodeRecord 0x003202D3#32) 0x003202D3#32 = .execute := by decide

theorem test_witness_StepKeepsInvariant :
    ∃ s t, s.Inv ∧ step s = .next t :=
  ⟨{ addState with insn := 0#32 }, _, ⟨by decide, by decide, rfl⟩, rfl⟩

theorem test_witness_PlacedWordRunsNext :
    State.reset.pcAligned ∧ Memory.wf State.reset.mem = true ∧
    0x1004#64 ∉ [0x1000#64, 0x1000#64 + 1#64, 0x1000#64 + 2#64, 0x1000#64 + 3#64] := by decide

end Sys2Proof.Tests
end

namespace Sys2Proof.Machine

/-! ### The pc stays aligned -/

/-- Adding an even length keeps an address aligned (R37, R64). -/
theorem aligned_add_length {a : Addr} {n : BitVec 3} (ha : a.extractLsb' 0 1 = 0#1) (hn : n = 2#3 ∨ n = 4#3) :
    (a + n.setWidth 64).extractLsb' 0 1 = 0#1 := by
  have ha := congrArg BitVec.toNat ha
  apply BitVec.eq_of_toNat_eq
  rcases hn with rfl | rfl <;>
    simp only [toNat_slice, BitVec.toNat_add, BitVec.toNat_setWidth, BitVec.toNat_ofNat] at ha ⊢ <;> omega

/-- The vector base is a multiple of four. -/
theorem vectorBase_aligned (mtvec : BitVec 64) : (vectorBase mtvec).extractLsb' 0 1 = 0#1 := by
  rw [vectorBase, BitVec.extractLsb'_and]
  exact BitVec.and_zero

/-! ### The record and the ports -/

/-- Every record has one of the two lengths (R37). -/
theorem decodeRecord_length (w : Word) : (decodeRecord w).length = 2#3 ∨ (decodeRecord w).length = 4#3 := by
  rcases runWord_cases w with ⟨r, hr, hd, -⟩ | ⟨n, hn, hd, -⟩ | ⟨n, hn, hd, -⟩ <;> rw [hd]
  · exact hr.1
  · exact hn
  · exact hn

/-- A word that answers a next state stands on the input port, with its record on the output ports. -/
theorem runWord_next_ports {w : Word} {s t : State} (h : runWord w s = .next t) :
    t.insn = w ∧ t.out = decodeRecord w ∧ t.mem = s.mem := by
  rcases runWord_next h with rfl | ⟨-, n, -, -, rfl⟩ <;> exact ⟨rfl, rfl, rfl⟩

/-- A word that answers a next state leaves an aligned pc aligned. -/
theorem runWord_next_aligned {w : Word} {s t : State} (hs : s.pcAligned) (h : runWord w s = .next t) :
    t.pcAligned := by
  rcases runWord_next h with rfl | ⟨-, n, -, -, rfl⟩
  · exact aligned_add_length hs (decodeRecord_length w)
  · exact vectorBase_aligned s.mtvec

/-- No shared path reads the output ports. -/
theorem emitIllegal_setOut (n : BitVec 3) (r : Record) (s : State) :
    emitIllegal n { s with out := r } = emitIllegal n s := by
  obtain ⟨_, _, _, _, _ | _⟩ := s <;> rfl

theorem emitUnimplemented_setOut (n : BitVec 3) (r : Record) (s : State) :
    emitUnimplemented n { s with out := r } = emitUnimplemented n s := by
  obtain ⟨_, _, _, _, _ | _⟩ := s <;> rfl

/-- Presenting a word hides what stood on the ports (R30). -/
theorem runWord_setPorts (w v : Word) (r : Record) (s : State) :
    runWord w { s with out := r, insn := v } = runWord w s := by
  rcases runWord_cases w with ⟨r', -, -, ha⟩ | ⟨n, -, -, he⟩ | ⟨n, -, -, he⟩
  · rw [ha, ha]
  · rw [he, he]
    exact emitIllegal_setOut n r (s.present w)
  · rw [he, he]
    exact emitUnimplemented_setOut n r (s.present w)

/-! ### The fetch of a whole word -/

/-- The four bytes of a word, put together again (R61). -/
theorem bytes_append (w : Word) :
    (w.extractLsb 31 24 ++ w.extractLsb 23 16) ++ (w.extractLsb 15 8 ++ w.extractLsb 7 0) = w := by
  apply BitVec.eq_of_toNat_eq
  simp only [BitVec.extractLsb, toNat_append_add, toNat_slice]
  omega

theorem parcelAt_of_bytes {m : Memory} {a : Addr} {b0 b1 : Byte} (h0 : readByte m a = some b0)
    (h1 : readByte m (a + 1#64) = some b1) : parcelAt m a = some (b1 ++ b0) := by
  rw [parcelAt, h0, h1]

/-- From an aligned pc, four bytes that exist are fetched as their word (R61). -/
theorem fetch_of_bytesAt {s : State} {w : Word} (hs : s.pcAligned) (hb : bytesAt s.mem s.pc w) :
    fetch s = .ok w := by
  obtain ⟨h0, h1, h2, h3⟩ := hb
  have h3' : readByte s.mem (s.pc + 2#64 + 1#64) = some (w.extractLsb 31 24) := by
    rw [BitVec.add_assoc]
    exact h3
  rw [fetch_aligned s hs, parcelAt_of_bytes h0 h1, parcelAt_of_bytes h2 h3']
  exact congrArg Except.ok (bytes_append w)

/-! ### The obligations about a step -/

/-- Settles O59: memory is not written, the pc moves on by an even length or goes to the vector base, and the ports
carry the word that ran and its record. -/
theorem stepKeepsInvariant : Obligations.StepKeepsInvariant := by
  rintro s t ⟨hm, hs, -⟩ h
  obtain ⟨-, w, -, hw⟩ := step_next h
  obtain ⟨hi, ho, hmem⟩ := runWord_next_ports hw
  refine ⟨hmem ▸ hm, runWord_next_aligned hs hw, ?_⟩
  rw [State.combinational, hi, ho]

/-- Settles O44: the fetch reads the pc and the memory alone, and presenting its word hides the ports. -/
theorem blockHoldsNoState : Obligations.BlockHoldsNoState := by
  refine ⟨fun s r v => ?_, fun w s t h => (runWord_next_ports h).2.1⟩
  have hf : fetch { s with out := r, insn := v } = fetch s := rfl
  rw [step, step, stepOnce, stepOnce, hf]
  cases fetch s with
  | error f => rfl
  | ok w => exact runWord_setPorts w v r s

/-- Settles O46: of the two ways a word can end, a caller that continues takes the first. -/
theorem continuingStepChangesOutputsAndPc : Obligations.ContinuingStepChangesOutputsAndPc := by
  intro s t hp h
  obtain ⟨-, w, -, hw⟩ := step_next h
  rcases runWord_next hw with rfl | ⟨hp', -⟩
  · rfl
  · cases hp.symm.trans hp'

/-- Settles O49: the fetch supplies the word, and running it is by definition what its decoding says. -/
theorem stepRunsDecodedInstruction : Obligations.StepRunsDecodedInstruction := by
  intro s w hs hb
  have hstep : step s = runWord w s := stepOnce_of_fetch s w (fetch_of_bytesAt hs hb)
  exact ⟨fun i hi => hstep.trans (runWord_instr w i s hi), fun c hc => hstep.trans (runWord_illegal w c s hc)⟩

/-- Settles O58: the record at reset is that of the delegated pair 0. -/
theorem resetMeetsInvariant : Obligations.ResetMeetsInvariant := by
  have hd : decode State.reset.insn = .instr .unimpCAddi4spn := rfl
  have hr : decodeRecord State.reset.insn = unimpRecord 2#3 := decodeRecord_of_unimplemented hd fun _ => rfl
  exact ⟨⟨rfl, rfl, hr.symm⟩, rfl, rfl⟩

/-! ### Completion -/

/-- An instruction that drives a record completes with what holds of the record. -/
theorem completes_of_emit {i : Instr} {n : BitVec 3} {defined : Record → Prop} {r : Record}
    (he : ∀ s, exec i s = emit r s) (hn : r.length = n) (hr : defined r) : Completes i n defined := fun s =>
  ⟨r, by rw [he, emit_eq, hn], hn, hr⟩

/-- The fields that R40 defines for a load. -/
theorem completes_load {i : Instr} {w : Word} {op : Opcode} {n : BitVec 3} {rd rs1 : Reg} {imm : Imm}
    (he : ∀ s, exec i s = emit (loadRecord w op n rd rs1 imm) s) :
    Completes i n fun r => r.opcode = op ∧ r.rd = rd ∧ r.rs1 = rs1 ∧ r.imm = imm :=
  completes_of_emit he rfl ⟨rfl, rfl, rfl, rfl⟩

/-- The fields that R40 defines for a store. -/
theorem completes_store {i : Instr} {w : Word} {op : Opcode} {n : BitVec 3} {rs1 rs2 : Reg} {imm : Imm}
    (he : ∀ s, exec i s = emit (storeRecord w op n rs1 rs2 imm) s) :
    Completes i n fun r => r.opcode = op ∧ r.rs1 = rs1 ∧ r.rs2 = rs2 ∧ r.imm = imm :=
  completes_of_emit he rfl ⟨rfl, rfl, rfl, rfl⟩

/-- The fields that R40 defines for an atomic. -/
theorem completes_amo {i : Instr} {w : Word} {op : Opcode} {rd rs1 rs2 : Reg} {aqrl : AqRl}
    (he : ∀ s, exec i s = emit (amoRecord w op rd rs1 rs2 aqrl) s) :
    Completes i 4#3 fun r => r.opcode = op ∧ r.rd = rd ∧ r.rs1 = rs1 ∧ r.rs2 = rs2 ∧ r.imm = aqrl.setWidth 64 :=
  completes_of_emit he rfl ⟨rfl, rfl, rfl, rfl, rfl⟩

/-- The fields that R40 defines for a fused multiply-add. -/
theorem completes_fma {i : Instr} {w : Word} {op : Opcode} {rd rs1 rs2 rs3 : Reg} {rm : Rm}
    (he : ∀ s, exec i s = emit (fmaRecord w op rd rs1 rs2 rs3 rm) s) :
    Completes i 4#3 fun r => r.opcode = op ∧ r.rd = rd ∧ r.rs1 = rs1 ∧ r.rs2 = rs2 ∧ r.rs3 = rs3 ∧ r.rm = rm :=
  completes_of_emit he rfl ⟨rfl, rfl, rfl, rfl, rfl, rfl⟩

/-- The fields that R40 defines for OP-FP. -/
theorem completes_opFp {i : Instr} {w : Word} {op : Opcode} {rd rs1 rs2 : Reg} {rm : Rm}
    (he : ∀ s, exec i s = emit (opFpRecord w op rd rs1 rs2 rm) s) :
    Completes i 4#3 fun r => r.opcode = op ∧ r.rd = rd ∧ r.rs1 = rs1 ∧ r.rs2 = rs2 ∧ r.rm = rm :=
  completes_of_emit he rfl ⟨rfl, rfl, rfl, rfl, rfl⟩

/-- A row on the unimplemented path answers `UNIMP(n)`. -/
theorem answersUnimplemented_of_exec {i : Instr} {n : BitVec 3} (he : ∀ s, exec i s = emitUnimplemented n s) :
    AnswersUnimplemented i n := fun s hp => (he s).trans (emitUnimplemented_continuePast n s hp)

/-- Settles O1: two loads and two stores of length 2. -/
theorem compressedFpInstructionsComplete : Obligations.CompressedFpInstructionsComplete :=
  ⟨fun _ _ _ => completes_load fun _ => rfl, fun _ _ _ => completes_store fun _ => rfl,
    fun _ _ => completes_load fun _ => rfl, fun _ _ => completes_store fun _ => rfl⟩

/-- Settles O2: two loads and two stores of length 4. -/
theorem fpLoadStoreInstructionsComplete : Obligations.FpLoadStoreInstructionsComplete :=
  ⟨fun _ _ _ => completes_load fun _ => rfl, fun _ _ _ => completes_load fun _ => rfl,
    fun _ _ _ => completes_store fun _ => rfl, fun _ _ _ => completes_store fun _ => rfl⟩

/-- Settles O3, by the rows. -/
theorem amoWordInstructionsComplete : Obligations.AmoWordInstructionsComplete := by
  refine ⟨fun _ _ _ => completes_amo fun _ => rfl, fun p hp rd rs1 rs2 aqrl => ?_⟩
  fin_cases hp <;> exact completes_amo fun _ => rfl

/-- Settles O4, by the rows. -/
theorem amoDoublewordInstructionsComplete : Obligations.AmoDoublewordInstructionsComplete := by
  refine ⟨fun _ _ _ => completes_amo fun _ => rfl, fun p hp rd rs1 rs2 aqrl => ?_⟩
  fin_cases hp <;> exact completes_amo fun _ => rfl

/-- Settles O5, by the rows. -/
theorem fmaInstructionsComplete : Obligations.FmaInstructionsComplete := by
  intro p hp rd rs1 rs2 rs3 rm
  fin_cases hp <;> exact completes_fma fun _ => rfl

/-- Settles O6, by the rows of each operand form. -/
theorem opFpSingleInstructionsComplete : Obligations.OpFpSingleInstructionsComplete := by
  refine ⟨fun p hp rd rs1 rs2 rm => ?_, fun p hp rd rs1 rm => ?_, fun p hp rd rs1 rs2 => ?_, fun p hp rd rs1 => ?_⟩ <;>
    fin_cases hp <;> exact completes_opFp fun _ => rfl

/-- Settles O7, by the rows of each operand form. -/
theorem opFpDoubleInstructionsComplete : Obligations.OpFpDoubleInstructionsComplete := by
  refine ⟨fun p hp rd rs1 rs2 rm => ?_, fun p hp rd rs1 rm => ?_, fun p hp rd rs1 rs2 => ?_, fun p hp rd rs1 => ?_⟩ <;>
    fin_cases hp <;> exact completes_opFp fun _ => rfl

/-- Settles O8, by the rows. -/
theorem delegatedRowsAnswerUnimplemented : Obligations.DelegatedRowsAnswerUnimplemented := by
  constructor <;> intro i hi <;> fin_cases hi <;> exact answersUnimplemented_of_exec fun _ => rfl

end Sys2Proof.Machine

namespace Sys2Proof

/-! ### A word put together from its own fields (R82, R83) -/

theorem encR_fields (w : Word) :
    encR (funct7 w) (fieldRs2 w) (fieldRs1 w) (funct3 w) (fieldRd w) (opcode7 w) = w :=
  word_ext (by rw [funct5_encR, funct5_eq_funct7]) (by rw [fmt2_encR, fmt2_eq_funct7]) (fieldRs2_encR ..)
    (fieldRs1_encR ..) (funct3_encR ..) (fieldRd_encR ..) (opcode7_encR ..)

theorem encR_amoFields (w : Word) :
    encR (funct5 w ++ fmt2 w) (fieldRs2 w) (fieldRs1 w) (funct3 w) (fieldRd w) (opcode7 w) = w :=
  word_ext (by rw [funct5_encR, amoFunct7_op]) (by rw [fmt2_encR, amoFunct7_aqrl]) (fieldRs2_encR ..)
    (fieldRs1_encR ..) (funct3_encR ..) (fieldRd_encR ..) (opcode7_encR ..)

theorem encR4_fields (w : Word) :
    encR4 (funct5 w) (fmt2 w) (fieldRs2 w) (fieldRs1 w) (funct3 w) (fieldRd w) (opcode7 w) = w :=
  word_ext (funct5_encR4 ..) (fmt2_encR4 ..) (fieldRs2_encR4 ..) (fieldRs1_encR4 ..) (funct3_encR4 ..)
    (fieldRd_encR4 ..) (opcode7_encR4 ..)

/-- The low twelve bits of the I-type immediate are the word's upper twelve (R85). -/
theorem toNat_immI_mod (w : Word) : (immI w).toNat % 4096 = w.toNat / 1048576 := by
  have h := toInt_immI w
  rw [BitVec.toInt_eq_toNat_cond] at h
  omega

/-- The low twelve bits of the S-type immediate (R86). -/
theorem toNat_immS_mod (w : Word) :
    (immS w).toNat % 4096 = w.toNat / 33554432 * 32 + w.toNat / 128 % 32 := by
  have h := toInt_immS w
  rw [BitVec.toInt_eq_toNat_cond] at h
  omega

theorem encI_fields (w : Word) : encI (immI w) (fieldRs1 w) (funct3 w) (fieldRd w) (opcode7 w) = w := by
  apply BitVec.eq_of_toNat_eq
  rw [toNat_encI, toNat_immI_mod, toNat_fieldRs1, toNat_funct3, toNat_fieldRd, toNat_opcode7]
  omega

theorem encS_fields (w : Word) : encS (immS w) (fieldRs2 w) (fieldRs1 w) (funct3 w) (opcode7 w) = w := by
  have hi := toNat_immS_mod w
  have hhi : (immS w).toNat / 32 % 128 = w.toNat / 33554432 := by omega
  have hlo : (immS w).toNat % 32 = w.toNat / 128 % 32 := by omega
  clear hi
  apply BitVec.eq_of_toNat_eq
  rw [toNat_encS, hhi, hlo, toNat_fieldRs1, toNat_fieldRs2, toNat_funct3, toNat_opcode7]
  clear hhi hlo
  omega

/-- The low half of a word, as a number. -/
theorem toNat_lowHalf (w : Word) : (w &&& 0x0000FFFF#32).toNat = w.toNat % 65536 := by
  rw [BitVec.toNat_and]
  exact Nat.and_two_pow_sub_one_eq_mod w.toNat 16

/-- A compressed register field is the low three bits of the index it names (R84). -/
theorem toNat_compressedReg_mod (f : BitVec 3) : (compressedReg f).toNat % 8 = f.toNat := by
  simp only [compressedReg, BitVec.toNat_add, BitVec.toNat_setWidth, BitVec.toNat_ofNat]
  omega

/-- The parts of a displacement of two fields, scaled by 8 (R87, R89). -/
theorem scaled_two_fields {a b : Nat} (hb : b < 8) :
    (a * 64 + b * 8) / 8 % 8 = b ∧ (a * 64 + b * 8) / 64 = a := by
  omega

/-- The parts of a displacement of three fields, scaled by 8 (R88). -/
theorem scaled_three_fields {a m b : Nat} (hm : m < 2) (hb : b < 4) :
    (a * 64 + m * 32 + b * 8) / 8 % 4 = b ∧ (a * 64 + m * 32 + b * 8) / 32 % 2 = m ∧
      (a * 64 + m * 32 + b * 8) / 64 = a := by
  omega

theorem encCL_fields {w : Word} (hq : quadrant w = 0b00#2) :
    encCL (cfunct3 w) (immCL w) (fieldRs1C w) (fieldRdC w) = w &&& 0x0000FFFF#32 := by
  have hq : w.toNat / 1 % 4 = 0 := (toNat_quadrant w).symm.trans (congrArg BitVec.toNat hq)
  obtain ⟨hlo, hhi⟩ := scaled_two_fields (a := w.toNat / 32 % 4) (Nat.mod_lt (w.toNat / 1024) (by decide))
  apply BitVec.eq_of_toNat_eq
  rw [toNat_encCL, toNat_immCL, hlo, hhi, fieldRs1C, fieldRdC, toNat_compressedReg_mod, toNat_compressedReg_mod,
    toNat_cfunct3, toNat_slice, toNat_slice, toNat_lowHalf]
  clear hlo hhi
  omega

theorem encCI_fields {w : Word} (hq : quadrant w = 0b10#2) :
    encCI (cfunct3 w) (immCI w) (fieldRd w) = w &&& 0x0000FFFF#32 := by
  have hq : w.toNat / 1 % 4 = 2 := (toNat_quadrant w).symm.trans (congrArg BitVec.toNat hq)
  obtain ⟨hlo, hmid, hhi⟩ := scaled_three_fields (a := w.toNat / 4 % 8)
    (Nat.mod_lt (w.toNat / 4096) (by decide)) (Nat.mod_lt (w.toNat / 32) (by decide))
  apply BitVec.eq_of_toNat_eq
  rw [toNat_encCI, toNat_immCI, hlo, hmid, hhi, toNat_cfunct3, toNat_fieldRd, toNat_lowHalf]
  clear hlo hmid hhi
  omega

theorem encCSS_fields {w : Word} (hq : quadrant w = 0b10#2) :
    encCSS (cfunct3 w) (immCSS w) (fieldRs2C w) = w &&& 0x0000FFFF#32 := by
  have hq : w.toNat / 1 % 4 = 2 := (toNat_quadrant w).symm.trans (congrArg BitVec.toNat hq)
  obtain ⟨hlo, hhi⟩ := scaled_two_fields (a := w.toNat / 128 % 8) (Nat.mod_lt (w.toNat / 1024) (by decide))
  apply BitVec.eq_of_toNat_eq
  rw [toNat_encCSS, toNat_immCSS, hlo, hhi, toNat_cfunct3, toNat_fieldRs2C, toNat_lowHalf]
  clear hlo hhi
  omega

/-! ### What decodes from a standard word encodes to it again

Each arm of the decoder has compared some fields of the word with constants and copied the others. Writing the word as
its own fields and rewriting the compared ones gives the encoding of the arm's instruction, by computation. -/

/-- Whatever instruction the answer holds, its encoding is the word. -/
def Decoded.EncodesTo (d : Decoded) (w : Word) : Prop := ∀ i, d = .instr i → encode i = w

theorem encodesTo_instr {i : Instr} {w : Word} (h : encode i = w) : (Decoded.instr i).EncodesTo w :=
  fun _ hi => Decoded.instr.inj hi ▸ h

theorem encodesTo_illegal {c : IllegalCase} {w : Word} : (Decoded.illegal c).EncodesTo w := nofun

theorem decodeLoadFp_encodesTo {w : Word} (ho : opcode7 w = 0b0000111#7) : (decodeLoadFp w).EncodesTo w := by
  have hw := encI_fields w
  rw [ho] at hw
  unfold decodeLoadFp
  split
  · next h3 => rw [h3] at hw; exact encodesTo_instr hw
  · next h3 => rw [h3] at hw; exact encodesTo_instr hw
  · exact encodesTo_illegal

theorem decodeStoreFp_encodesTo {w : Word} (ho : opcode7 w = 0b0100111#7) : (decodeStoreFp w).EncodesTo w := by
  have hw := encS_fields w
  rw [ho] at hw
  unfold decodeStoreFp
  split
  · next h3 => rw [h3] at hw; exact encodesTo_instr hw
  · next h3 => rw [h3] at hw; exact encodesTo_instr hw
  · exact encodesTo_illegal

/-- An atomic with its operation in `funct5`, its width in `funct3` and every other field an operand. -/
theorem encodesTo_amo {w : Word} {f5 : BitVec 5} {f3 : BitVec 3} {i : Reg → Reg → Reg → AqRl → Instr}
    (ho : opcode7 w = 0b0101111#7) (h3 : funct3 w = f3) (h5 : funct5 w = f5)
    (he : ∀ rd rs1 rs2 aqrl, encode (i rd rs1 rs2 aqrl) = encR (f5 ++ aqrl) rs2 rs1 f3 rd 0b0101111#7) :
    (Decoded.instr (i (fieldRd w) (fieldRs1 w) (fieldRs2 w) (fmt2 w))).EncodesTo w := by
  refine encodesTo_instr ((he ..).trans ?_)
  rw [← h5, ← h3, ← ho]
  exact encR_amoFields w

/-- A load-reserved: `rs2` is compared with 0 as well. -/
theorem encodesTo_lr {w : Word} {f3 : BitVec 3} {i : Reg → Reg → AqRl → Instr}
    (ho : opcode7 w = 0b0101111#7) (h3 : funct3 w = f3) (h5 : funct5 w = 0b00010#5)
    (he : ∀ rd rs1 aqrl, encode (i rd rs1 aqrl) = encR (0b00010#5 ++ aqrl) 0#5 rs1 f3 rd 0b0101111#7) :
    (if fieldRs2 w = 0#5 then .instr (i (fieldRd w) (fieldRs1 w) (fmt2 w))
      else .illegal .lrRs2 : Decoded).EncodesTo w := by
  split
  · next h2 =>
    have hw := encR_amoFields w
    rw [h5, h2, h3, ho] at hw
    exact encodesTo_instr ((he ..).trans hw)
  · exact encodesTo_illegal

theorem decodeAmoW_encodesTo {w : Word} (ho : opcode7 w = 0b0101111#7) (h3 : funct3 w = 0b010#3) :
    (decodeAmoW w).EncodesTo w := by
  unfold decodeAmoW
  split
  case h_1 h5 => exact encodesTo_lr ho h3 h5 fun _ _ _ => rfl
  case h_12 => exact encodesTo_illegal
  all_goals next h5 => exact encodesTo_amo ho h3 h5 fun _ _ _ _ => rfl

theorem decodeAmoD_encodesTo {w : Word} (ho : opcode7 w = 0b0101111#7) (h3 : funct3 w = 0b011#3) :
    (decodeAmoD w).EncodesTo w := by
  unfold decodeAmoD
  split
  case h_1 h5 => exact encodesTo_lr ho h3 h5 fun _ _ _ => rfl
  case h_12 => exact encodesTo_illegal
  all_goals next h5 => exact encodesTo_amo ho h3 h5 fun _ _ _ _ => rfl

theorem decodeAmo_encodesTo {w : Word} (ho : opcode7 w = 0b0101111#7) : (decodeAmo w).EncodesTo w := by
  unfold decodeAmo
  split
  · next h3 => exact decodeAmoW_encodesTo ho h3
  · next h3 => exact decodeAmoD_encodesTo ho h3
  · exact encodesTo_illegal

/-- A fused multiply-add, given how the two precisions encode. -/
theorem decodeFma_encodesTo {w : Word} {op : BitVec 7} {single double : Reg → Reg → Reg → Reg → Rm → Instr}
    (ho : opcode7 w = op)
    (hs : ∀ rd rs1 rs2 rs3 rm, encode (single rd rs1 rs2 rs3 rm) = encR4 rs3 0b00#2 rs2 rs1 rm rd op)
    (hd : ∀ rd rs1 rs2 rs3 rm, encode (double rd rs1 rs2 rs3 rm) = encR4 rs3 0b01#2 rs2 rs1 rm rd op) :
    (decodeFma w single double).EncodesTo w := by
  have hw := encR4_fields w
  rw [ho] at hw
  unfold decodeFma
  split
  · next hf => rw [hf] at hw; exact encodesTo_instr ((hs ..).trans hw)
  · next hf => rw [hf] at hw; exact encodesTo_instr ((hd ..).trans hw)
  · exact encodesTo_illegal

section OpFp

variable {w : Word} {f7 : BitVec 7} (ho : opcode7 w = 0b1010011#7) (h7 : funct7 w = f7)

include ho h7

/-- An OP-FP word put together from its fields, once `funct7` is known. -/
theorem encR_opFpFields : encR f7 (fieldRs2 w) (fieldRs1 w) (funct3 w) (fieldRd w) 0b1010011#7 = w := by
  rw [← h7, ← ho]
  exact encR_fields w

theorem opFpArith_encodesTo {i : Reg → Reg → Reg → Rm → Instr}
    (he : ∀ rd rs1 rs2 rm, encode (i rd rs1 rs2 rm) = encR f7 rs2 rs1 rm rd 0b1010011#7) :
    (opFpArith w i).EncodesTo w := encodesTo_instr ((he ..).trans (encR_opFpFields ho h7))

/-- An OP-FP instruction whose `rs2` is a selector. -/
theorem encodesTo_rs2Selected {sel : Reg} {i : Reg → Reg → Rm → Instr} (h2 : fieldRs2 w = sel)
    (he : ∀ rd rs1 rm, encode (i rd rs1 rm) = encR f7 sel rs1 rm rd 0b1010011#7) :
    (Decoded.instr (i (fieldRd w) (fieldRs1 w) (funct3 w))).EncodesTo w :=
  encodesTo_instr ((he ..).trans (h2 ▸ encR_opFpFields ho h7))

/-- An OP-FP instruction whose `funct3` is a selector. -/
theorem encodesTo_funct3Selected {sel : BitVec 3} {i : Reg → Reg → Reg → Instr} (h3 : funct3 w = sel)
    (he : ∀ rd rs1 rs2, encode (i rd rs1 rs2) = encR f7 rs2 rs1 sel rd 0b1010011#7) :
    (Decoded.instr (i (fieldRd w) (fieldRs1 w) (fieldRs2 w))).EncodesTo w :=
  encodesTo_instr ((he ..).trans (h3 ▸ encR_opFpFields ho h7))

/-- An OP-FP instruction whose `rs2` and `funct3` are both selectors. -/
theorem encodesTo_bothSelected {sel2 : Reg} {sel3 : BitVec 3} {i : Reg → Reg → Instr} (h2 : fieldRs2 w = sel2)
    (h3 : funct3 w = sel3) (he : ∀ rd rs1, encode (i rd rs1) = encR f7 sel2 rs1 sel3 rd 0b1010011#7) :
    (Decoded.instr (i (fieldRd w) (fieldRs1 w))).EncodesTo w :=
  encodesTo_instr ((he ..).trans (h2 ▸ h3 ▸ encR_opFpFields ho h7))

theorem opFpUnary_encodesTo {sel : Reg} {i : Reg → Reg → Rm → Instr}
    (he : ∀ rd rs1 rm, encode (i rd rs1 rm) = encR f7 sel rs1 rm rd 0b1010011#7) :
    (opFpUnary w sel i).EncodesTo w := by
  unfold opFpUnary
  split
  · next h2 => exact encodesTo_rs2Selected ho h7 h2 he
  · exact encodesTo_illegal

theorem opFpConvert_encodesTo {cw cwu cl clu : Reg → Reg → Rm → Instr}
    (hw : ∀ rd rs1 rm, encode (cw rd rs1 rm) = encR f7 0b00000#5 rs1 rm rd 0b1010011#7)
    (hwu : ∀ rd rs1 rm, encode (cwu rd rs1 rm) = encR f7 0b00001#5 rs1 rm rd 0b1010011#7)
    (hl : ∀ rd rs1 rm, encode (cl rd rs1 rm) = encR f7 0b00010#5 rs1 rm rd 0b1010011#7)
    (hlu : ∀ rd rs1 rm, encode (clu rd rs1 rm) = encR f7 0b00011#5 rs1 rm rd 0b1010011#7) :
    (opFpConvert w cw cwu cl clu).EncodesTo w := by
  unfold opFpConvert
  split
  · next h2 => exact encodesTo_rs2Selected ho h7 h2 hw
  · next h2 => exact encodesTo_rs2Selected ho h7 h2 hwu
  · next h2 => exact encodesTo_rs2Selected ho h7 h2 hl
  · next h2 => exact encodesTo_rs2Selected ho h7 h2 hlu
  · exact encodesTo_illegal

theorem opFpSelect3_encodesTo {f0 f1 f2 : Reg → Reg → Reg → Instr}
    (h0 : ∀ rd rs1 rs2, encode (f0 rd rs1 rs2) = encR f7 rs2 rs1 0b000#3 rd 0b1010011#7)
    (h1 : ∀ rd rs1 rs2, encode (f1 rd rs1 rs2) = encR f7 rs2 rs1 0b001#3 rd 0b1010011#7)
    (h2 : ∀ rd rs1 rs2, encode (f2 rd rs1 rs2) = encR f7 rs2 rs1 0b010#3 rd 0b1010011#7) :
    (opFpSelect3 w f0 f1 f2).EncodesTo w := by
  unfold opFpSelect3
  split
  · next h3 => exact encodesTo_funct3Selected ho h7 h3 h0
  · next h3 => exact encodesTo_funct3Selected ho h7 h3 h1
  · next h3 => exact encodesTo_funct3Selected ho h7 h3 h2
  · exact encodesTo_illegal

theorem opFpSelect2_encodesTo {f0 f1 : Reg → Reg → Reg → Instr}
    (h0 : ∀ rd rs1 rs2, encode (f0 rd rs1 rs2) = encR f7 rs2 rs1 0b000#3 rd 0b1010011#7)
    (h1 : ∀ rd rs1 rs2, encode (f1 rd rs1 rs2) = encR f7 rs2 rs1 0b001#3 rd 0b1010011#7) :
    (opFpSelect2 w f0 f1).EncodesTo w := by
  unfold opFpSelect2
  split
  · next h3 => exact encodesTo_funct3Selected ho h7 h3 h0
  · next h3 => exact encodesTo_funct3Selected ho h7 h3 h1
  · exact encodesTo_illegal

theorem opFpMoveClass_encodesTo {move classify : Reg → Reg → Instr}
    (hm : ∀ rd rs1, encode (move rd rs1) = encR f7 0#5 rs1 0b000#3 rd 0b1010011#7)
    (hc : ∀ rd rs1, encode (classify rd rs1) = encR f7 0#5 rs1 0b001#3 rd 0b1010011#7) :
    (opFpMoveClass w move classify).EncodesTo w := by
  unfold opFpMoveClass
  split
  · next h2 =>
    split
    · next h3 => exact encodesTo_bothSelected ho h7 h2 h3 hm
    · next h3 => exact encodesTo_bothSelected ho h7 h2 h3 hc
    · exact encodesTo_illegal
  · exact encodesTo_illegal

theorem opFpMoveIn_encodesTo {move : Reg → Reg → Instr}
    (hm : ∀ rd rs1, encode (move rd rs1) = encR f7 0#5 rs1 0b000#3 rd 0b1010011#7) :
    (opFpMoveIn w move).EncodesTo w := by
  unfold opFpMoveIn
  split
  · next h2 =>
    split
    · next h3 => exact encodesTo_bothSelected ho h7 h2 h3 hm
    · exact encodesTo_illegal
  · exact encodesTo_illegal

end OpFp

/-- The arms by their numbers in the decoder, each by the shape it takes. -/
theorem decodeOpFp_encodesTo {w : Word} (ho : opcode7 w = 0b1010011#7) : (decodeOpFp w).EncodesTo w := by
  unfold decodeOpFp
  split
  case h_1 h7 | h_2 h7 | h_3 h7 | h_4 h7 | h_5 h7 | h_6 h7 | h_7 h7 | h_8 h7 =>
    exact opFpArith_encodesTo ho h7 fun _ _ _ _ => rfl
  case h_9 h7 | h_10 h7 | h_25 h7 | h_26 h7 => exact opFpUnary_encodesTo ho h7 fun _ _ _ => rfl
  case h_11 h7 | h_12 h7 | h_15 h7 | h_16 h7 =>
    exact opFpSelect3_encodesTo ho h7 (fun _ _ _ => rfl) (fun _ _ _ => rfl) fun _ _ _ => rfl
  case h_13 h7 | h_14 h7 => exact opFpSelect2_encodesTo ho h7 (fun _ _ _ => rfl) fun _ _ _ => rfl
  case h_17 h7 | h_18 h7 | h_19 h7 | h_20 h7 =>
    exact opFpConvert_encodesTo ho h7 (fun _ _ _ => rfl) (fun _ _ _ => rfl) (fun _ _ _ => rfl) fun _ _ _ => rfl
  case h_21 h7 | h_22 h7 => exact opFpMoveClass_encodesTo ho h7 (fun _ _ => rfl) fun _ _ => rfl
  case h_23 h7 | h_24 h7 => exact opFpMoveIn_encodesTo ho h7 fun _ _ => rfl
  case h_27 => exact encodesTo_illegal

end Sys2Proof

namespace Sys2Proof.Laws.EncodingFormat

/-- The statement of every instruction, from the one of each. -/
theorem statement (i : Instr) : Statement i := by
  cases i
  exacts [cFld _ _ _, cFsd _ _ _, cFldsp _ _, cFsdsp _ _, unimpCAddi4spn, unimpCLw, unimpCLd, unimpCReserved,
    unimpCSw, unimpCSd, unimpCNopAddi, unimpCAddiw, unimpCLi, unimpCLuiAddi16sp, unimpCMiscAlu, unimpCJ,
    unimpCBeqz, unimpCBnez, unimpCSlli, unimpCLwsp, unimpCLdsp, unimpCJrMvAdd, unimpCSwsp, unimpCSdsp,
    illegalLong, flw _ _ _, fld _ _ _, fsw _ _ _, fsd _ _ _, lrW _ _ _, scW _ _ _ _, amoswapW _ _ _ _,
    amoaddW _ _ _ _, amoxorW _ _ _ _, amoandW _ _ _ _, amoorW _ _ _ _, amominW _ _ _ _, amomaxW _ _ _ _,
    amominuW _ _ _ _, amomaxuW _ _ _ _, lrD _ _ _, scD _ _ _ _, amoswapD _ _ _ _, amoaddD _ _ _ _,
    amoxorD _ _ _ _, amoandD _ _ _ _, amoorD _ _ _ _, amominD _ _ _ _, amomaxD _ _ _ _, amominuD _ _ _ _,
    amomaxuD _ _ _ _, fmaddS _ _ _ _ _, fmsubS _ _ _ _ _, fnmsubS _ _ _ _ _, fnmaddS _ _ _ _ _,
    fmaddD _ _ _ _ _, fmsubD _ _ _ _ _, fnmsubD _ _ _ _ _, fnmaddD _ _ _ _ _, faddS _ _ _ _, fsubS _ _ _ _,
    fmulS _ _ _ _, fdivS _ _ _ _, fsqrtS _ _ _, fsgnjS _ _ _, fsgnjnS _ _ _, fsgnjxS _ _ _, fminS _ _ _,
    fmaxS _ _ _, fcvtWS _ _ _, fcvtWuS _ _ _, fcvtLS _ _ _, fcvtLuS _ _ _, fmvXW _ _, fclassS _ _, feqS _ _ _,
    fltS _ _ _, fleS _ _ _, fcvtSW _ _ _, fcvtSWu _ _ _, fcvtSL _ _ _, fcvtSLu _ _ _, fmvWX _ _, fcvtSD _ _ _,
    faddD _ _ _ _, fsubD _ _ _ _, fmulD _ _ _ _, fdivD _ _ _ _, fsqrtD _ _ _, fsgnjD _ _ _, fsgnjnD _ _ _,
    fsgnjxD _ _ _, fminD _ _ _, fmaxD _ _ _, fcvtWD _ _ _, fcvtWuD _ _ _, fcvtLD _ _ _, fcvtLuD _ _ _,
    fmvXD _ _, fclassD _ _, feqD _ _ _, fltD _ _ _, fleD _ _ _, fcvtDW _ _ _, fcvtDWu _ _ _, fcvtDL _ _ _,
    fcvtDLu _ _ _, fmvDX _ _, fcvtDS _ _ _, unimpLoad, unimpCustom0, unimpMiscMem, unimpOpImm, unimpAuipc,
    unimpOpImm32, unimpStore, unimpCustom1, unimpOp, unimpLui, unimpOp32, unimpOpV, unimpCustom2, unimpBranch,
    unimpJalr, unimpReserved, unimpJal, unimpSystem, unimpOpP, unimpCustom3]

end Sys2Proof.Laws.EncodingFormat

namespace Sys2Proof.Machine

/-! ### What a word decodes to, and the length of its record -/

/-- A compressed word's instruction is one of the four decoded pairs' (arms 2, 6, 18 and 22), whose encoding is the low
half of the word, or a delegated pair's. -/
theorem decodeCompressed_cases {w : Word} (hq : quadrant w ≠ 0b11#2) :
    encode (decodeCompressed w) = w &&& 0x0000FFFF#32 ∨ ∀ s, exec (decodeCompressed w) s = emitUnimplemented 2#3 s := by
  unfold decodeCompressed
  split
  case h_2 hq h3 | h_6 hq h3 =>
    have hw := encCL_fields hq
    rw [h3] at hw
    exact .inl hw
  case h_18 hq h3 =>
    have hw := encCI_fields hq
    rw [h3] at hw
    exact .inl hw
  case h_22 hq h3 =>
    have hw := encCSS_fields hq
    rw [h3] at hw
    exact .inl hw
  case h_25 hq' => exact absurd hq' hq
  all_goals exact .inr fun _ => rfl

theorem decodeCompressed_size (w : Word) : (decodeCompressed w).size = 2 := by
  unfold decodeCompressed
  split <;> rfl

/-- The eight major opcodes that are decoded (30_encoding.md R94). -/
def decodedMajors : List (BitVec 7) :=
  [0b0000111#7, 0b0100111#7, 0b0101111#7, 0b1000011#7, 0b1000111#7, 0b1001011#7, 0b1001111#7, 0b1010011#7]

/-- Every major opcode of a standard word is decoded or delegated (R94, R95). -/
theorem mem_majors : ∀ op : BitVec 7, op.extractLsb' 0 2 = 0b11#2 → op.extractLsb' 0 5 ≠ 0b11111#5 →
    op ∈ decodedMajors ∨ op ∈ delegatedMajors := by decide

theorem opcode7_mem_majors {w : Word} (hq : quadrant w = 0b11#2) (hp : lengthPrefix w ≠ 0b11111#5) :
    opcode7 w ∈ decodedMajors ∨ opcode7 w ∈ delegatedMajors :=
  mem_majors _ (quadrant_eq_opcode7 w ▸ hq) (lengthPrefix_eq_opcode7 w ▸ hp)

/-- A word of a decoded major opcode is the encoding of what it decodes to. -/
theorem decode_encodesTo {w : Word} (h : opcode7 w ∈ decodedMajors) : (decode w).EncodesTo w := by
  simp only [decodedMajors, List.mem_cons, List.not_mem_nil, or_false] at h
  rcases h with h | h | h | h | h | h | h | h
  · rw [decode_loadFp h]; exact decodeLoadFp_encodesTo h
  · rw [decode_storeFp h]; exact decodeStoreFp_encodesTo h
  · rw [decode_amo h]; exact decodeAmo_encodesTo h
  · rw [decode_madd h]; exact decodeFma_encodesTo h (fun _ _ _ _ _ => rfl) fun _ _ _ _ _ => rfl
  · rw [decode_msub h]; exact decodeFma_encodesTo h (fun _ _ _ _ _ => rfl) fun _ _ _ _ _ => rfl
  · rw [decode_nmsub h]; exact decodeFma_encodesTo h (fun _ _ _ _ _ => rfl) fun _ _ _ _ _ => rfl
  · rw [decode_nmadd h]; exact decodeFma_encodesTo h (fun _ _ _ _ _ => rfl) fun _ _ _ _ _ => rfl
  · rw [decode_opFp h]; exact decodeOpFp_encodesTo h

/-- A word of a delegated major opcode decodes to a four-byte row of the unimplemented path. -/
theorem decode_delegatedMajor {w : Word} (h : opcode7 w ∈ delegatedMajors) :
    ∃ i, decode w = .instr i ∧ i.size = 4 ∧ ∀ s, exec i s = emitUnimplemented 4#3 s := by
  simp only [delegatedMajors, List.mem_cons, List.not_mem_nil, or_false] at h
  rcases h with h | h | h | h | h | h | h | h | h | h | h | h | h | h | h | h | h | h | h | h <;>
    exact ⟨_, by rw [decode_major h (by decide) (by decide), decodeStandard, h]; rfl, rfl, fun _ => rfl⟩

/-- What a word decodes to: its encoding is the word as far as the block may read it (R63), or it is the reserved long
row, or a delegated row. -/
theorem decode_instr_cases {w : Word} {i : Instr} (h : decode w = .instr i) :
    encode i = bitsRead w ∨ i = .illegalLong ∨ ∃ n, ∀ s, exec i s = emitUnimplemented n s := by
  by_cases hq : quadrant w = 0b11#2
  · by_cases hp : lengthPrefix w = 0b11111#5
    · exact .inr (.inl (Decoded.instr.inj (h.symm.trans (decode_long hp))))
    · have hb : bitsRead w = w := by rw [bitsRead, if_neg (not_not.2 hq), if_neg hp]
      rcases opcode7_mem_majors hq hp with hm | hm
      · exact .inl ((decode_encodesTo hm i h).trans hb.symm)
      · obtain ⟨j, hj, -, he⟩ := decode_delegatedMajor hm
        obtain rfl := Decoded.instr.inj (h.symm.trans hj)
        exact .inr (.inr ⟨_, he⟩)
  · obtain rfl := Decoded.instr.inj (h.symm.trans (decode_compressed hq))
    rw [bitsRead, if_pos hq]
    exact (decodeCompressed_cases hq).imp id fun he => .inr ⟨_, he⟩

/-- The record of an instruction has the size of its encoding (R37, R80). -/
theorem decodeRecord_length_eq_size {w : Word} {i : Instr} (h : decode w = .instr i) :
    (decodeRecord w).length = BitVec.ofNat 3 i.size := by
  rcases exec_cases i with ⟨r, -, hn, he⟩ | ⟨rfl, -⟩ | ⟨-, he⟩
  · rw [decodeRecord_of_emit h he, hn]
  · rw [decodeRecord_of_long h]; rfl
  · rw [decodeRecord_of_unimplemented h he]; rfl

/-- Every instruction's encoding has the length that the length law reads off it. -/
theorem size_eq_wordSize_encode (i : Instr) : i.size = wordSize (encode i) := (Laws.EncodingFormat.statement i).1

/-- The instructions of standard words have four bytes. -/
theorem size_of_decode_standard {w : Word} {i : Instr} (hq : quadrant w = 0b11#2) (hp : lengthPrefix w ≠ 0b11111#5)
    (h : decode w = .instr i) : i.size = 4 := by
  rcases opcode7_mem_majors hq hp with hm | hm
  · rw [size_eq_wordSize_encode, decode_encodesTo hm i h, wordSize_four w hq hp]
  · obtain ⟨j, hj, hs, -⟩ := decode_delegatedMajor hm
    exact Decoded.instr.inj (h.symm.trans hj) ▸ hs

/-- Settles O21: the record has the size of the instruction, and a standard word of no row is `ILLEGAL(4)`. -/
theorem lengthLaw : Obligations.LengthLaw := by
  refine fun w => ⟨fun hq => ?_, fun hp => ?_, fun hq hp => ?_⟩
  · rw [decodeRecord_length_eq_size (decode_compressed hq), decodeCompressed_size]
  · rw [decodeRecord_of_long (decode_long hp)]; rfl
  · cases hd : decode w with
    | illegal c => rw [decodeRecord_of_illegal hd]; rfl
    | instr i => rw [decodeRecord_length_eq_size hd, size_of_decode_standard hq hp hd]

/-! ### The form of a decoded record -/

/-- The tag of a fused multiply-add, by major opcode and format (R91, R101). -/
def fmaTag (op : BitVec 7) (fmt : BitVec 2) : Option Opcode :=
  match op, fmt with
  | 0b1000011#7, 0b00#2 => some .fmadd_s
  | 0b1000111#7, 0b00#2 => some .fmsub_s
  | 0b1001011#7, 0b00#2 => some .fnmsub_s
  | 0b1001111#7, 0b00#2 => some .fnmadd_s
  | 0b1000011#7, 0b01#2 => some .fmadd_d
  | 0b1000111#7, 0b01#2 => some .fmsub_d
  | 0b1001011#7, 0b01#2 => some .fnmsub_d
  | 0b1001111#7, 0b01#2 => some .fnmadd_d
  | _, _ => none

/-- The operand forms of the records that a word's encoding may have: those of Machine/Operands.lean, with the tags of
each group (R40). For the forms with an `rm`, the operands are the fields of the word. -/
inductive RecordForm (w : Word) : Record → Prop
  | load {op : Opcode} {n : BitVec 3} {rd rs1 : Reg} {imm : Imm} (hop : op.isLoad = true) :
      RecordForm w (loadRecord w op n rd rs1 imm)
  | store {op : Opcode} {n : BitVec 3} {rs1 rs2 : Reg} {imm : Imm} (hop : op.isStore = true) :
      RecordForm w (storeRecord w op n rs1 rs2 imm)
  | amo {op : Opcode} {rd rs1 rs2 : Reg} {aqrl : AqRl} (hop : (op.isLr || op.isScOrAmo) = true) :
      RecordForm w (amoRecord w op rd rs1 rs2 aqrl)
  | fma {op : Opcode} (hop : op.isFma = true) (ht : fmaTag (opcode7 w) (fmt2 w) = some op) :
      RecordForm w (fmaRecord w op (fieldRd w) (fieldRs1 w) (fieldRs2 w) (funct5 w) (funct3 w))
  | opFp {op : Opcode} (hop : op.isOpFp = true) :
      RecordForm w (opFpRecord w op (fieldRd w) (fieldRs1 w) (fieldRs2 w) (funct3 w))

theorem recordForm_fma {w : Word} {op : Opcode} {rd rs1 rs2 rs3 : Reg} {rm : Rm} {fmt : BitVec 2} {op7 : BitVec 7}
    (hw : w = encR4 rs3 fmt rs2 rs1 rm rd op7) (hop : op.isFma = true) (ht : fmaTag op7 fmt = some op) :
    RecordForm w (fmaRecord w op rd rs1 rs2 rs3 rm) := by
  have h : RecordForm w (fmaRecord w op (fieldRd w) (fieldRs1 w) (fieldRs2 w) (funct5 w) (funct3 w)) :=
    .fma hop (by rw [hw, opcode7_encR4, fmt2_encR4, ht])
  rwa [hw, fieldRd_encR4, fieldRs1_encR4, fieldRs2_encR4, funct5_encR4, funct3_encR4, ← hw] at h

theorem recordForm_opFp {w : Word} {op : Opcode} {rd rs1 rs2 : Reg} {rm : Rm} {f7 op7 : BitVec 7}
    (hw : w = encR f7 rs2 rs1 rm rd op7) (hop : op.isOpFp = true) : RecordForm w (opFpRecord w op rd rs1 rs2 rm) := by
  have h : RecordForm w (opFpRecord w op (fieldRd w) (fieldRs1 w) (fieldRs2 w) (funct3 w)) := .opFp hop
  rwa [hw, fieldRd_encR, fieldRs1_encR, fieldRs2_encR, funct3_encR, ← hw] at h

/-- exec drives a record of one of the forms, or takes one of the two shared paths. -/
theorem exec_form (i : Instr) :
    (∃ r, (∀ s, exec i s = emit r s) ∧ RecordForm (encode i) r) ∨ i = .illegalLong ∨
      ∃ n, ∀ s, exec i s = emitUnimplemented n s := by
  cases i
  case cFld | cFldsp | flw | fld => exact .inl ⟨_, fun _ => rfl, .load rfl⟩
  case cFsd | cFsdsp | fsw | fsd => exact .inl ⟨_, fun _ => rfl, .store rfl⟩
  case lrW | scW | amoswapW | amoaddW | amoxorW | amoandW | amoorW | amominW | amomaxW | amominuW | amomaxuW
      | lrD | scD | amoswapD | amoaddD | amoxorD | amoandD | amoorD | amominD | amomaxD | amominuD | amomaxuD =>
    exact .inl ⟨_, fun _ => rfl, .amo rfl⟩
  case fmaddS | fmsubS | fnmsubS | fnmaddS | fmaddD | fmsubD | fnmsubD | fnmaddD =>
    exact .inl ⟨_, fun _ => rfl, recordForm_fma rfl rfl rfl⟩
  case faddS | fsubS | fmulS | fdivS | fsqrtS | fsgnjS | fsgnjnS | fsgnjxS | fminS | fmaxS | fcvtWS | fcvtWuS | fcvtLS
      | fcvtLuS | fmvXW | fclassS | feqS | fltS | fleS | fcvtSW | fcvtSWu | fcvtSL | fcvtSLu | fmvWX | fcvtSD
      | faddD | fsubD | fmulD | fdivD | fsqrtD | fsgnjD | fsgnjnD | fsgnjxD | fminD | fmaxD | fcvtWD | fcvtWuD | fcvtLD
      | fcvtLuD | fmvXD | fclassD | feqD | fltD | fleD | fcvtDW | fcvtDWu | fcvtDL | fcvtDLu | fmvDX | fcvtDS =>
    exact .inl ⟨_, fun _ => rfl, recordForm_opFp rfl rfl⟩
  case illegalLong => exact .inr (.inl rfl)
  all_goals exact .inr (.inr ⟨_, fun _ => rfl⟩)

/-- The record of a word: one of the forms on the bits that the block may read, or one of the two records whose fields
are all 0. -/
theorem decodeRecord_form (w : Word) :
    RecordForm (bitsRead w) (decodeRecord w) ∨ (decodeRecord w).opcode = .illegal ∨
      (decodeRecord w).opcode = .unimplemented := by
  cases hd : decode w with
  | illegal c => exact .inr (.inl (by rw [decodeRecord_of_illegal hd]; rfl))
  | instr i =>
    have hlong (h : i = .illegalLong) : (decodeRecord w).opcode = .illegal := by
      rw [decodeRecord_of_long (h ▸ hd)]; rfl
    have hunimp (h : ∃ n, ∀ s, exec i s = emitUnimplemented n s) : (decodeRecord w).opcode = .unimplemented := by
      obtain ⟨n, he⟩ := h
      rw [decodeRecord_of_unimplemented hd he]; rfl
    rcases exec_form i with ⟨r, he, hr⟩ | h | h
    · rcases decode_instr_cases hd with hw | h | h
      · rw [decodeRecord_of_emit hd he, ← hw]
        exact .inl hr
      · exact .inr (.inl (hlong h))
      · exact .inr (.inr (hunimp h))
    · exact .inr (.inl (hlong h))
    · exact .inr (.inr (hunimp h))

/-! ### The fields that a form leaves undefined (R40, R41) -/

theorem defines_of_isLoad {op : Opcode} (h : op.isLoad = true) (f : OutField) :
    op.defines f = decide (f ∈ [.rd, .rs1, .imm]) := by
  cases op <;> cases h <;> cases f <;> rfl

theorem defines_of_isStore {op : Opcode} (h : op.isStore = true) (f : OutField) :
    op.defines f = decide (f ∈ [.rs1, .rs2, .imm]) := by
  cases op <;> cases h <;> cases f <;> rfl

theorem defines_of_atomic {op : Opcode} (h : (op.isLr || op.isScOrAmo) = true) (f : OutField) :
    op.defines f = decide (f ∈ [.rd, .rs1, .rs2, .imm]) := by
  cases op <;> cases h <;> cases f <;> rfl

theorem defines_of_isFma {op : Opcode} (h : op.isFma = true) (f : OutField) : op.defines f = decide (f ≠ .imm) := by
  cases op <;> cases h <;> cases f <;> rfl

theorem defines_of_isOpFp {op : Opcode} (h : op.isOpFp = true) (f : OutField) :
    op.defines f = decide (f ∈ [.rd, .rs1, .rs2, .rm]) := by
  cases op <;> cases h <;> cases f <;> rfl

/-- A record that is no instruction leaves nothing undefined. -/
theorem defines_of_noInstruction {op : Opcode} (h : op = .illegal ∨ op = .unimplemented) (f : OutField) :
    op.defines f = true := by
  rcases h with rfl | rfl <;> cases f <;> rfl

/-- The value of an undefined field: what `dontCare` gives the word and the field, on the field's port. -/
def dontCareField (w : Word) (f : OutField) : BitVec 64 := ((Config.dontCare w f).setWidth f.width).setWidth 64

theorem undefImm_eq (w : Word) : undefImm w = dontCareField w .imm := by
  simp only [undefImm, dontCareField, OutField.width, BitVec.setWidth_eq]

theorem RecordForm.field_undefined {w : Word} {r : Record} (h : RecordForm w r) {f : OutField}
    (hf : r.opcode.defines f = false) : r.field f = dontCareField w f := by
  cases h with
  | load hop =>
    rw [loadRecord, defines_of_isLoad hop] at hf
    cases f
    case rd | rs1 | imm => cases hf
    all_goals rfl
  | store hop =>
    rw [storeRecord, defines_of_isStore hop] at hf
    cases f
    case rs1 | rs2 | imm => cases hf
    all_goals rfl
  | amo hop =>
    rw [amoRecord, defines_of_atomic hop] at hf
    cases f
    case rs3 | rm => rfl
    all_goals cases hf
  | fma hop =>
    rw [fmaRecord, defines_of_isFma hop] at hf
    cases f
    case imm => exact undefImm_eq w
    all_goals cases hf
  | opFp hop =>
    rw [opFpRecord, defines_of_isOpFp hop] at hf
    cases f
    case rs3 => rfl
    case imm => exact undefImm_eq w
    all_goals cases hf

/-- Settles O33: the record of a word is in one of the forms, and a form leaves what its tags do not define to
`dontCare`. -/
theorem undefinedFieldsAreDontCare : Obligations.UndefinedFieldsAreDontCare := by
  intro w f hf
  rcases decodeRecord_form w with h | h
  · exact h.field_undefined hf
  · rw [defines_of_noInstruction h] at hf
    cases hf

/-! ### The rounding mode (R93, R220) -/

/-- The block reads all of a word whose record has four bytes (R63). -/
theorem bitsRead_of_length_four {w : Word} (h : (decodeRecord w).length = 4#3) : bitsRead w = w := by
  obtain ⟨hcompressed, hlong, -⟩ := lengthLaw w
  have hq : quadrant w = 0b11#2 := by
    by_contra hq
    cases h.symm.trans (hcompressed hq)
  have hp : lengthPrefix w ≠ 0b11111#5 := fun hp => by cases h.symm.trans (hlong hp)
  rw [bitsRead, if_neg (not_not.2 hq), if_neg hp]

/-- The form of a record with a rounding mode: the word is read whole, and `rm` is its `funct3`. -/
theorem RecordForm.rm_eq_funct3 {w : Word} {r : Record} (h : RecordForm w r)
    (hop : r.opcode.isFma = true ∨ r.opcode.isOpFp = true) : r.length = 4#3 ∧ r.rm = funct3 w := by
  have hrm : r.opcode.defines .rm = true := by
    rcases hop with h | h
    · rw [defines_of_isFma h]; rfl
    · rw [defines_of_isOpFp h]; rfl
  cases h with
  | load h => rw [loadRecord, defines_of_isLoad h] at hrm; cases hrm
  | store h => rw [storeRecord, defines_of_isStore h] at hrm; cases hrm
  | amo h => rw [amoRecord, defines_of_atomic h] at hrm; cases hrm
  | fma => exact ⟨rfl, rfl⟩
  | opFp => exact ⟨rfl, rfl⟩

/-- A record with a rounding mode is no `illegal` and no `unimplemented` one. -/
theorem decodeRecord_form_of_rm {w : Word}
    (hop : (decodeRecord w).opcode.isFma = true ∨ (decodeRecord w).opcode.isOpFp = true) :
    RecordForm (bitsRead w) (decodeRecord w) := by
  rcases decodeRecord_form w with h | h | h
  · exact h
  · rw [h] at hop; cases hop <;> contradiction
  · rw [h] at hop; cases hop <;> contradiction

/-- A fused multiply-add's major opcode and format give its tag. -/
theorem fmaTag_of_isFma {w : Word} (h : (decodeRecord w).opcode.isFma = true) :
    fmaTag (opcode7 w) (fmt2 w) = some (decodeRecord w).opcode := by
  have hf := decodeRecord_form_of_rm (.inl h)
  rw [bitsRead_of_length_four (hf.rm_eq_funct3 (.inl h)).1] at hf
  generalize decodeRecord w = r at h hf
  have himm : r.opcode.defines .imm = false := by rw [defines_of_isFma h]; rfl
  cases hf with
  | load hop => rw [loadRecord, defines_of_isLoad hop] at himm; cases himm
  | store hop => rw [storeRecord, defines_of_isStore hop] at himm; cases himm
  | amo hop => rw [amoRecord, defines_of_atomic hop] at himm; cases himm
  | fma _ ht => exact ht
  | opFp hop =>
    have hrs3 := (defines_of_isOpFp hop .rs3).symm.trans (defines_of_isFma h .rs3)
    cases hrs3

theorem fmaTag_mem_decodedMajors {op7 : BitVec 7} {fmt : BitVec 2} {op : Opcode} (ht : fmaTag op7 fmt = some op) :
    op7 ∈ decodedMajors := by
  unfold fmaTag at ht
  split at ht
  case h_9 => cases ht
  all_goals decide

section FmaFormat

variable {w : Word} {op : Opcode} {single double : Reg → Reg → Reg → Reg → Rm → Instr}
  (hw : (decode w).EncodesTo w) (hd : decode w = decodeFma w single double)

include hw hd

/-- The record of a word of single-precision format, given the instruction's. -/
theorem decodeRecord_of_single (hf : fmt2 w = 0b00#2)
    (he : ∀ rd rs1 rs2 rs3 rm s, exec (single rd rs1 rs2 rs3 rm) s =
      emit (fmaRecord (encode (single rd rs1 rs2 rs3 rm)) op rd rs1 rs2 rs3 rm) s) :
    decodeRecord w = fmaRecord w op (fieldRd w) (fieldRs1 w) (fieldRs2 w) (funct5 w) (funct3 w) := by
  rw [decodeFma, hf] at hd
  rw [decodeRecord_of_emit hd (he _ _ _ _ _), hw _ hd]

/-- The same of double-precision format. -/
theorem decodeRecord_of_double (hf : fmt2 w = 0b01#2)
    (he : ∀ rd rs1 rs2 rs3 rm s, exec (double rd rs1 rs2 rs3 rm) s =
      emit (fmaRecord (encode (double rd rs1 rs2 rs3 rm)) op rd rs1 rs2 rs3 rm) s) :
    decodeRecord w = fmaRecord w op (fieldRd w) (fieldRs1 w) (fieldRs2 w) (funct5 w) (funct3 w) := by
  rw [decodeFma, hf] at hd
  rw [decodeRecord_of_emit hd (he _ _ _ _ _), hw _ hd]

end FmaFormat

/-- The record of a fused multiply-add word (R220). -/
theorem decodeRecord_of_fmaTag {w : Word} {op : Opcode} (ht : fmaTag (opcode7 w) (fmt2 w) = some op) :
    decodeRecord w = fmaRecord w op (fieldRd w) (fieldRs1 w) (fieldRs2 w) (funct5 w) (funct3 w) := by
  have hw : (decode w).EncodesTo w := decode_encodesTo (fmaTag_mem_decodedMajors ht)
  unfold fmaTag at ht
  split at ht <;> cases ht
  case h_1 ho hf => exact decodeRecord_of_single hw (decode_madd ho) hf fun _ _ _ _ _ _ => rfl
  case h_2 ho hf => exact decodeRecord_of_single hw (decode_msub ho) hf fun _ _ _ _ _ _ => rfl
  case h_3 ho hf => exact decodeRecord_of_single hw (decode_nmsub ho) hf fun _ _ _ _ _ _ => rfl
  case h_4 ho hf => exact decodeRecord_of_single hw (decode_nmadd ho) hf fun _ _ _ _ _ _ => rfl
  case h_5 ho hf => exact decodeRecord_of_double hw (decode_madd ho) hf fun _ _ _ _ _ _ => rfl
  case h_6 ho hf => exact decodeRecord_of_double hw (decode_msub ho) hf fun _ _ _ _ _ _ => rfl
  case h_7 ho hf => exact decodeRecord_of_double hw (decode_nmsub ho) hf fun _ _ _ _ _ _ => rfl
  case h_8 ho hf => exact decodeRecord_of_double hw (decode_nmadd ho) hf fun _ _ _ _ _ _ => rfl

/-- Words that agree under a mask agree in every field that the mask covers whole. -/
theorem slice_of_masked {v w m : Word} (h : v &&& m = w &&& m) (lo k : Nat)
    (hm : m.extractLsb' lo k = BitVec.allOnes k) : v.extractLsb' lo k = w.extractLsb' lo k :=
  (slice_of_row h lo k hm).trans (slice_of_row rfl lo k hm).symm

/-- Settles O31: `rm` is `funct3` in both forms that have it; and the tag of a fused multiply-add is a function of the
major opcode and the format, which another `funct3` leaves as they are. -/
theorem roundingModeIsCopied : Obligations.RoundingModeIsCopied := by
  refine fun w => ⟨fun hop => ?_, fun hop v hv => ?_⟩
  · have hf := decodeRecord_form_of_rm hop
    obtain ⟨hlen, hrm⟩ := hf.rm_eq_funct3 hop
    rw [hrm, bitsRead_of_length_four hlen]
    rfl
  · have hw := fmaTag_of_isFma hop
    have ho : opcode7 v = opcode7 w := slice_of_masked hv 0 7 (by decide)
    have hf : fmt2 v = fmt2 w := slice_of_masked hv 25 2 (by decide)
    have hd : fieldRd v = fieldRd w := slice_of_masked hv 7 5 (by decide)
    have h1 : fieldRs1 v = fieldRs1 w := slice_of_masked hv 15 5 (by decide)
    have h2 : fieldRs2 v = fieldRs2 w := slice_of_masked hv 20 5 (by decide)
    have h5 : funct5 v = funct5 w := slice_of_masked hv 27 5 (by decide)
    rw [decodeRecord_of_fmaTag (hf ▸ ho ▸ hw : fmaTag (opcode7 v) (fmt2 v) = _)]
    generalize (decodeRecord w).opcode = op at hw
    rw [decodeRecord_of_fmaTag hw]
    exact ⟨rfl, hd, h1, h2, h5, rfl⟩

/-! ### The opcode enumeration (R34) -/

/-- Each opcode with a word that has it: of a decoded row the word with every operand 0, for `illegal` the shortest
reserved long word, for `unimplemented` the word 0. -/
def opcodeSamples : List (Opcode × Word) :=
  [(Opcode.illegal, 0x0000001F#32), (.unimplemented, 0x00000000#32), (.flw, 0x00002007#32),
   (.fld, 0x00003007#32), (.fsw, 0x00002027#32), (.fsd, 0x00003027#32), (.lr_w, 0x1000202F#32),
   (.sc_w, 0x1800202F#32), (.amoswap_w, 0x0800202F#32), (.amoadd_w, 0x0000202F#32), (.amoxor_w, 0x2000202F#32),
   (.amoand_w, 0x6000202F#32), (.amoor_w, 0x4000202F#32), (.amomin_w, 0x8000202F#32), (.amomax_w, 0xA000202F#32),
   (.amominu_w, 0xC000202F#32), (.amomaxu_w, 0xE000202F#32), (.lr_d, 0x1000302F#32), (.sc_d, 0x1800302F#32),
   (.amoswap_d, 0x0800302F#32), (.amoadd_d, 0x0000302F#32), (.amoxor_d, 0x2000302F#32),
   (.amoand_d, 0x6000302F#32), (.amoor_d, 0x4000302F#32), (.amomin_d, 0x8000302F#32), (.amomax_d, 0xA000302F#32),
   (.amominu_d, 0xC000302F#32), (.amomaxu_d, 0xE000302F#32), (.fmadd_s, 0x00000043#32),
   (.fmsub_s, 0x00000047#32), (.fnmsub_s, 0x0000004B#32), (.fnmadd_s, 0x0000004F#32), (.fmadd_d, 0x02000043#32),
   (.fmsub_d, 0x02000047#32), (.fnmsub_d, 0x0200004B#32), (.fnmadd_d, 0x0200004F#32), (.fadd_s, 0x00000053#32),
   (.fsub_s, 0x08000053#32), (.fmul_s, 0x10000053#32), (.fdiv_s, 0x18000053#32), (.fsqrt_s, 0x58000053#32),
   (.fsgnj_s, 0x20000053#32), (.fsgnjn_s, 0x20001053#32), (.fsgnjx_s, 0x20002053#32), (.fmin_s, 0x28000053#32),
   (.fmax_s, 0x28001053#32), (.fcvt_w_s, 0xC0000053#32), (.fcvt_wu_s, 0xC0100053#32), (.fcvt_l_s, 0xC0200053#32),
   (.fcvt_lu_s, 0xC0300053#32), (.fmv_x_w, 0xE0000053#32), (.fclass_s, 0xE0001053#32), (.feq_s, 0xA0002053#32),
   (.flt_s, 0xA0001053#32), (.fle_s, 0xA0000053#32), (.fcvt_s_w, 0xD0000053#32), (.fcvt_s_wu, 0xD0100053#32),
   (.fcvt_s_l, 0xD0200053#32), (.fcvt_s_lu, 0xD0300053#32), (.fmv_w_x, 0xF0000053#32),
   (.fcvt_s_d, 0x40100053#32), (.fadd_d, 0x02000053#32), (.fsub_d, 0x0A000053#32), (.fmul_d, 0x12000053#32),
   (.fdiv_d, 0x1A000053#32), (.fsqrt_d, 0x5A000053#32), (.fsgnj_d, 0x22000053#32), (.fsgnjn_d, 0x22001053#32),
   (.fsgnjx_d, 0x22002053#32), (.fmin_d, 0x2A000053#32), (.fmax_d, 0x2A001053#32), (.fcvt_w_d, 0xC2000053#32),
   (.fcvt_wu_d, 0xC2100053#32), (.fcvt_l_d, 0xC2200053#32), (.fcvt_lu_d, 0xC2300053#32),
   (.fmv_x_d, 0xE2000053#32), (.fclass_d, 0xE2001053#32), (.feq_d, 0xA2002053#32), (.flt_d, 0xA2001053#32),
   (.fle_d, 0xA2000053#32), (.fcvt_d_w, 0xD2000053#32), (.fcvt_d_wu, 0xD2100053#32), (.fcvt_d_l, 0xD2200053#32),
   (.fcvt_d_lu, 0xD2300053#32), (.fmv_d_x, 0xF2000053#32), (.fcvt_d_s, 0x42000053#32)]

/-- Every opcode has its sample. -/
theorem mem_opcodeSamples (o : Opcode) : o ∈ opcodeSamples.map Prod.fst := by
  cases o <;> decide

/-- Every sample has its opcode. -/
theorem opcode_of_sample : ∀ p ∈ opcodeSamples, (decodeRecord p.2).opcode = p.1 := by decide

/-- Settles O36, by the samples. -/
theorem everyOpcodeIsProduced : Obligations.EveryOpcodeIsProduced := by
  refine ⟨⟨opcodeSamples.map Prod.fst, rfl, by decide, mem_opcodeSamples⟩, fun o => ?_⟩
  obtain ⟨p, hp, rfl⟩ := List.mem_map.1 (mem_opcodeSamples o)
  exact ⟨p.2, opcode_of_sample p hp⟩

end Sys2Proof.Machine

namespace Sys2Proof

/-! ### What decodes is well formed -/

theorem wfSigned12_immI (w : Word) : wfSigned12 (immI w) = true := by
  simp only [wfSigned12, Bool.and_eq_true, decide_eq_true_eq]
  rw [toInt_immI]
  split <;> omega

theorem wfSigned12_immS (w : Word) : wfSigned12 (immS w) = true := by
  simp only [wfSigned12, Bool.and_eq_true, decide_eq_true_eq]
  rw [toInt_immS]
  split <;> omega

theorem wfScaled5_immCL (w : Word) : wfScaled5 (immCL w) = true := by
  simp only [wfScaled5, Bool.and_eq_true, decide_eq_true_eq]
  rw [toNat_immCL]
  omega

theorem wfScaled6_immCI (w : Word) : wfScaled6 (immCI w) = true := by
  simp only [wfScaled6, Bool.and_eq_true, decide_eq_true_eq]
  rw [toNat_immCI]
  omega

theorem wfScaled6_immCSS (w : Word) : wfScaled6 (immCSS w) = true := by
  simp only [wfScaled6, Bool.and_eq_true, decide_eq_true_eq]
  rw [toNat_immCSS]
  omega

/-- A compressed register field names one of the registers 8 to 15 (R84). -/
theorem wfCompressedReg_compressedReg : ∀ f : BitVec 3, wfCompressedReg (compressedReg f) = true := by decide

/-- Of the compressed instructions only those of the four decoded pairs (arms 2, 6, 18 and 22) have a condition. -/
theorem decodeCompressed_wf (w : Word) : (decodeCompressed w).wf = true := by
  unfold decodeCompressed
  split
  case h_2 | h_6 =>
    simp only [Instr.wf, fieldRdC, fieldRs1C, wfCompressedReg_compressedReg, wfScaled5_immCL, Bool.and_self]
  case h_18 => exact wfScaled6_immCI w
  case h_22 => exact wfScaled6_immCSS w
  all_goals rfl

theorem decodeLoadFp_wf {w : Word} {i : Instr} (h : decodeLoadFp w = .instr i) : i.wf = true := by
  unfold decodeLoadFp at h
  split at h <;> cases h <;> exact wfSigned12_immI w

theorem decodeStoreFp_wf {w : Word} {i : Instr} (h : decodeStoreFp w = .instr i) : i.wf = true := by
  unfold decodeStoreFp at h
  split at h <;> cases h <;> exact wfSigned12_immS w

/-- Beside the compressed instructions only loads and stores have a condition, so an encoding of another format is that
of a well-formed instruction. -/
theorem wf_of_encode_opcode7 {i : Instr} {op : BitVec 7} (h : opcode7 (encode i) = op)
    (hq : op.extractLsb' 0 2 = 0b11#2) (hl : op ≠ 0b0000111#7) (hs : op ≠ 0b0100111#7) : i.wf = true := by
  have hq : quadrant (encode i) = 0b11#2 := by rw [quadrant_eq_opcode7, h, hq]
  cases i
  case cFld | cFsd => rw [encode, quadrant_encCL] at hq; cases hq
  case cFldsp => rw [encode, quadrant_encCI] at hq; cases hq
  case cFsdsp => rw [encode, quadrant_encCSS] at hq; cases hq
  case flw | fld => rw [encode, opcode7_encI] at h; exact absurd h.symm hl
  case fsw | fsd => rw [encode, opcode7_encS] at h; exact absurd h.symm hs
  all_goals rfl

end Sys2Proof

namespace Sys2Proof.Machine

/-- A row on the unimplemented path has no operand. -/
theorem wf_of_exec_unimplemented {i : Instr} {n : BitVec 3} (h : ∀ s, exec i s = emitUnimplemented n s) :
    i.wf = true := by
  have h := h { State.reset with policy := .trapOrRefuse }
  cases i
  case cFld | cFsd | cFldsp | cFsdsp | flw | fld | fsw | fsd => cases h
  all_goals rfl

theorem decode_wf_of_decodedMajor {w : Word} {i : Instr} (hm : opcode7 w ∈ decodedMajors) (h : decode w = .instr i) :
    i.wf = true := by
  have he := decode_encodesTo hm i h
  simp only [decodedMajors, List.mem_cons, List.not_mem_nil, or_false] at hm
  rcases hm with hm | hm | hm | hm | hm | hm | hm | hm
  · exact decodeLoadFp_wf ((decode_loadFp hm).symm.trans h)
  · exact decodeStoreFp_wf ((decode_storeFp hm).symm.trans h)
  all_goals exact wf_of_encode_opcode7 ((congrArg opcode7 he).trans hm) (by decide) (by decide) (by decide)

/-- What a word decodes to is well formed, by the format of the word. -/
theorem decode_wf {w : Word} {i : Instr} (h : decode w = .instr i) : i.wf = true := by
  by_cases hq : quadrant w = 0b11#2
  · by_cases hp : lengthPrefix w = 0b11111#5
    · obtain rfl := Decoded.instr.inj (h.symm.trans (decode_long hp))
      rfl
    · rcases opcode7_mem_majors hq hp with hm | hm
      · exact decode_wf_of_decodedMajor hm h
      · obtain ⟨j, hj, -, he⟩ := decode_delegatedMajor hm
        obtain rfl := Decoded.instr.inj (h.symm.trans hj)
        exact wf_of_exec_unimplemented he
  · obtain rfl := Decoded.instr.inj (h.symm.trans (decode_compressed hq))
    exact decodeCompressed_wf w

/-- Settles O40: an operand that has a condition is a field or an immediate of the word; and the encoding is the word
again but for the rows that carry no operand. -/
theorem encodeOfDecode : Obligations.EncodeOfDecode := by
  intro w i h
  refine ⟨decode_wf h, ?_⟩
  rcases decode_instr_cases h with he | he | ⟨n, he⟩
  · exact .inr (.inr he)
  · exact .inl he
  · exact .inr (.inl (by rw [decodeRecord_of_unimplemented h he]; rfl))

end Sys2Proof.Machine

namespace Sys2Proof

/-! ### The bits that the block may read (R63) -/

theorem bitsRead_compressed {w : Word} (h : quadrant w ≠ 0b11#2) : bitsRead w = w &&& 0x0000FFFF#32 := by
  rw [bitsRead, if_pos h]

theorem bitsRead_standard {w : Word} (hq : quadrant w = 0b11#2) (hp : lengthPrefix w ≠ 0b11111#5) :
    bitsRead w = w := by
  rw [bitsRead, if_neg (not_not.2 hq), if_neg hp]

/-- Of a reserved long word the block reads the five bits that say it is one. -/
theorem bitsRead_long {w : Word} (h : lengthPrefix w = 0b11111#5) : bitsRead w = 0x0000001F#32 := by
  rw [bitsRead, if_neg (not_not.2 (quadrant_of_prefix h)), if_pos h]
  have hn := congrArg BitVec.toNat h
  rw [toNat_lengthPrefix, Nat.div_one] at hn
  apply BitVec.eq_of_toNat_eq
  rw [BitVec.toNat_and]
  exact (Nat.and_two_pow_sub_one_eq_mod w.toNat 5).trans hn

/-- The quadrant lies in the low half. -/
theorem quadrant_lowHalf (w : Word) : quadrant (w &&& 0x0000FFFF#32) = quadrant w :=
  (quadrant_of_row rfl (by decide)).symm

/-- A selection of bits that a mask covers whole. -/
theorem selectBits_and_mask {m : Word} (w : Word) {ds : List BitRange}
    (h : ∀ d ∈ ds, m.extractLsb' d.lo d.width = BitVec.allOnes d.width) :
    selectBits (w &&& m) ds = selectBits w ds := by
  induction ds with
  | nil => rfl
  | cons d ds ih =>
    obtain ⟨hd, hds⟩ := List.forall_mem_cons.1 h
    rw [selectBits, selectBits, ← slice_of_row rfl d.lo d.width hd, ih hds]

theorem extract_and_mask {m : Word} (w : Word) {ds : List BitRange} {ext : Extension} {scale : Nat}
    (h : ∀ d ∈ ds, m.extractLsb' d.lo d.width = BitVec.allOnes d.width) :
    extract (w &&& m) ds ext scale = extract w ds ext scale := by
  simp only [extract, selectBits_and_mask w h]

/-- The compressed demultiplexer and the fields it copies lie in the low half. -/
theorem decodeCompressed_lowHalf (w : Word) : decodeCompressed (w &&& 0x0000FFFF#32) = decodeCompressed w := by
  have h3 : cfunct3 (w &&& 0x0000FFFF#32) = cfunct3 w := (cfunct3_of_row rfl (by decide)).symm
  have hd : fieldRd (w &&& 0x0000FFFF#32) = fieldRd w := (slice_of_row rfl 7 5 (by decide)).symm
  have h2 : fieldRs2C (w &&& 0x0000FFFF#32) = fieldRs2C w := (slice_of_row rfl 2 5 (by decide)).symm
  have hdC : fieldRdC (w &&& 0x0000FFFF#32) = fieldRdC w :=
    congrArg compressedReg (slice_of_row rfl 2 3 (by decide)).symm
  have h1C : fieldRs1C (w &&& 0x0000FFFF#32) = fieldRs1C w :=
    congrArg compressedReg (slice_of_row rfl 7 3 (by decide)).symm
  have hCL : immCL (w &&& 0x0000FFFF#32) = immCL w := extract_and_mask w (by decide)
  have hCI : immCI (w &&& 0x0000FFFF#32) = immCI w := extract_and_mask w (by decide)
  have hCSS : immCSS (w &&& 0x0000FFFF#32) = immCSS w := extract_and_mask w (by decide)
  rw [decodeCompressed, quadrant_lowHalf, h3, hd, h2, hdC, h1C, hCL, hCI, hCSS, decodeCompressed]

/-- The bits that the block may read determine what a word decodes to. -/
theorem decode_bitsRead (w : Word) : decode (bitsRead w) = decode w := by
  by_cases hq : quadrant w = 0b11#2
  · by_cases hp : lengthPrefix w = 0b11111#5
    · rw [bitsRead_long hp, decode_long hp]
      rfl
    · rw [bitsRead_standard hq hp]
  · have hq' : quadrant (w &&& 0x0000FFFF#32) ≠ 0b11#2 := quadrant_lowHalf w ▸ hq
    rw [bitsRead_compressed hq, decode_compressed hq', decode_compressed hq, decodeCompressed_lowHalf]

/-- The low half of a word as a parcel. -/
theorem and_lowHalf (w : Word) : w &&& 0x0000FFFF#32 = (w.extractLsb' 0 16).setWidth 32 := by
  apply BitVec.eq_of_toNat_eq
  rw [toNat_lowHalf, BitVec.toNat_setWidth, toNat_slice]
  omega

/-- A word of two bytes is read in its low half alone. -/
theorem bitsRead_eq_of_lowHalf_eq {v w : Word} (h : v.extractLsb' 0 16 = w.extractLsb' 0 16)
    (hs : wordSize w = 2) : bitsRead v = bitsRead w := by
  have hm : v &&& 0x0000FFFF#32 = w &&& 0x0000FFFF#32 := by rw [and_lowHalf, and_lowHalf, h]
  have hq : quadrant v = quadrant w := Machine.slice_of_masked hm 0 2 (by decide)
  have hp : lengthPrefix v = lengthPrefix w := Machine.slice_of_masked hm 0 5 (by decide)
  by_cases hw : quadrant w = 0b11#2
  · have hlong : lengthPrefix w = 0b11111#5 := by
      by_contra hl
      cases (wordSize_four w hw hl).symm.trans hs
    rw [bitsRead_long hlong, bitsRead_long (hp.trans hlong)]
  · rw [bitsRead_compressed hw, bitsRead_compressed (hq ▸ hw), hm]

end Sys2Proof

namespace Sys2Proof.Machine

/-- The record is a function of what the word decodes to. -/
theorem decodeRecord_eq_of_decode_eq {v w : Word} (h : decode v = decode w) : decodeRecord v = decodeRecord w := by
  cases hd : decode w with
  | illegal c => rw [decodeRecord_of_illegal (h.trans hd), decodeRecord_of_illegal hd]
  | instr i =>
    rcases exec_cases i with ⟨r, -, -, he⟩ | ⟨rfl, -⟩ | ⟨-, he⟩
    · rw [decodeRecord_of_emit (h.trans hd) he, decodeRecord_of_emit hd he]
    · rw [decodeRecord_of_long (h.trans hd), decodeRecord_of_long hd]
    · rw [decodeRecord_of_unimplemented (h.trans hd) he, decodeRecord_of_unimplemented hd he]

theorem decodeRecord_eq_of_bitsRead_eq {v w : Word} (h : bitsRead v = bitsRead w) :
    decodeRecord v = decodeRecord w :=
  decodeRecord_eq_of_decode_eq (by rw [← decode_bitsRead v, h, decode_bitsRead])

/-- Settles O42: the words of each clause agree on the bits that the block may read. -/
theorem unreadBitsDoNotMatter : Obligations.UnreadBitsDoNotMatter := by
  refine ⟨fun w hq => decodeRecord_eq_of_bitsRead_eq ?_, fun w v hp hv => decodeRecord_eq_of_bitsRead_eq ?_⟩
  · have hq' : quadrant (w &&& 0x0000FFFF#32) ≠ 0b11#2 := quadrant_lowHalf w ▸ hq
    rw [bitsRead_compressed hq, bitsRead_compressed hq', BitVec.and_assoc, BitVec.and_self]
  · exact (bitsRead_long (hv.trans hp)).trans (bitsRead_long hp).symm

/-- Settles O47: of the two ways a word can end, the first writes the ports and the pc alone, and the second is the trap
entry. -/
theorem onlyIllegalTrapsWriteTrapState : Obligations.OnlyIllegalTrapsWriteTrapState := by
  intro s t h
  obtain ⟨-, w, -, hw⟩ := step_next h
  rcases runWord_next hw with rfl | ⟨hp, n, -, hr, rfl⟩
  · exact ⟨rfl, rfl, rfl, .inl ⟨rfl, rfl, rfl, rfl, rfl⟩⟩
  · refine ⟨rfl, rfl, rfl, .inr ⟨hp, ?_, rfl⟩⟩
    rw [takeException_out, hr]
    rfl

end Sys2Proof.Machine

namespace Sys2Proof

/-- A word has two bytes unless its low parcel says that four are needed (R62, R80). -/
theorem wordSize_eq_ite (w : Word) :
    wordSize w = if Machine.needsFourBytes (w.extractLsb' 0 16) = true then 4 else 2 := by
  have hq : (w.extractLsb' 0 16).extractLsb' 0 2 = quadrant w := BitVec.extractLsb'_extractLsb'_of_le (by decide)
  have hp : (w.extractLsb' 0 16).extractLsb' 0 5 = lengthPrefix w := BitVec.extractLsb'_extractLsb'_of_le (by decide)
  simp only [wordSize, Machine.needsFourBytes, hq, hp, Bool.and_eq_true, decide_eq_true_eq]

end Sys2Proof

namespace Sys2Proof.Machine

/-! ### The parcels of a fetch -/

/-- The first byte says whether four are needed. -/
theorem needsFourBytes_append (b1 b0 : Byte) : needsFourBytes (b1 ++ b0) =
    (decide (b0.extractLsb' 0 2 = 0b11#2) && decide (b0.extractLsb' 0 5 ≠ 0b11111#5)) := by
  have hq : (b1 ++ b0).extractLsb' 0 2 = b0.extractLsb' 0 2 := BitVec.extractLsb'_append_eq_of_add_le (by decide)
  have hp : (b1 ++ b0).extractLsb' 0 5 = b0.extractLsb' 0 5 := BitVec.extractLsb'_append_eq_of_add_le (by decide)
  rw [needsFourBytes, hq, hp]

theorem not_needsFourBytes_append {b0 : Byte} (b1 : Byte)
    (h : b0.extractLsb 1 0 ≠ 0b11#2 ∨ b0.extractLsb 4 0 = 0b11111#5) : needsFourBytes (b1 ++ b0) = false := by
  rw [needsFourBytes_append, Bool.and_eq_false_iff, decide_eq_false_iff_not, decide_eq_false_iff_not, not_not]
  exact h

theorem parcelAt_eq_some {m : Memory} {a : Addr} {lo : Parcel} (h : parcelAt m a = some lo) :
    ∃ b0 b1, readByte m a = some b0 ∧ readByte m (a + 1#64) = some b1 ∧ lo = b1 ++ b0 := by
  unfold parcelAt at h
  split at h
  · next b0 b1 h0 h1 => exact ⟨b0, b1, h0, h1, (Option.some.inj h).symm⟩
  · cases h

theorem parcelAt_eq_none {m : Memory} {a : Addr} (h : readByte m a = none ∨ readByte m (a + 1#64) = none) :
    parcelAt m a = none := by
  cases hp : parcelAt m a with
  | none => rfl
  | some lo =>
    obtain ⟨b0, b1, h0, h1, -⟩ := parcelAt_eq_some hp
    rw [h0, h1] at h
    rcases h with h | h <;> cases h

/-- A fetch that supplies a word found its parcels, but for an upper one that is not needed. -/
theorem fetch_ok {s : State} {w : Word} (h : fetch s = .ok w) :
    ∃ hi lo, w = hi ++ lo ∧ parcelAt s.mem s.pc = some lo ∧
      (parcelAt s.mem (s.pc + 2#64) = some hi ∨ needsFourBytes lo = false) := by
  have hs : s.pcAligned := by
    by_contra hs
    rw [fetch_misaligned s hs] at h
    cases h
  rw [fetch_aligned s hs] at h
  split at h
  · cases h
  · next lo hi hlo hhi => exact ⟨hi, lo, (Except.ok.inj h).symm, hlo, .inl hhi⟩
  · next lo hlo hhi =>
    split at h
    · cases h
    · next hn => exact ⟨_, lo, (Except.ok.inj h).symm, hlo, .inr (Bool.not_eq_true _ ▸ hn)⟩

/-- Without the parcel at the pc no word is supplied. -/
theorem fetch_noParcel {s : State} (hs : s.pcAligned) (h : parcelAt s.mem s.pc = none) :
    fetch s = .error .fetchAccess := by
  rw [fetch_aligned s hs, h]

/-- Without a second parcel that is needed no word is supplied. -/
theorem fetch_noUpperParcel {s : State} {lo : Parcel} (hs : s.pcAligned) (hlo : parcelAt s.mem s.pc = some lo)
    (hn : needsFourBytes lo = true) (hhi : parcelAt s.mem (s.pc + 2#64) = none) :
    fetch s = .error .fetchAccess := by
  rw [fetch_aligned s hs, hlo, hhi]
  exact if_pos hn

/-- Where two bytes are enough, a word with them in its low half is supplied (R62, R352). -/
theorem fetch_twoBytes {s : State} {lo : Parcel} (hs : s.pcAligned) (hlo : parcelAt s.mem s.pc = some lo)
    (hn : needsFourBytes lo = false) : ∃ hi : Parcel, fetch s = .ok (hi ++ lo) := by
  rw [fetch_aligned s hs, hlo]
  cases parcelAt s.mem (s.pc + 2#64) with
  | some hi => exact ⟨hi, rfl⟩
  | none => exact ⟨Config.upperHalf s.pc, if_neg (by rw [hn]; decide)⟩

/-! ### The step by its fetch -/

theorem step_of_fetch_ok {s : State} {w : Word} (h : fetch s = .ok w) : step s = runWord w s := stepOnce_of_fetch s w h

theorem step_of_fetch_error {s : State} {f : Fault} (h : fetch s = .error f) : step s = .fault f := by
  rw [step, stepOnce, h]

/-- The block never faults (R320). -/
theorem runWord_ne_fault (w : Word) (s : State) (f : Fault) : runWord w s ≠ .fault f := by
  cases hd : decode w with
  | instr i => exact runWord_instr w i s hd ▸ exec_ne_fault i (s.present w) f
  | illegal c =>
    obtain ⟨t, ht, -⟩ := emitIllegal_next 4#3 (s.present w)
    rw [runWord_illegal w c s hd, ht]
    nofun

/-- A step whose fetch supplies a word does not fault. -/
theorem step_ne_fault_of_fetch_ok {s : State} {w : Word} (h : fetch s = .ok w) (f : Fault) : step s ≠ .fault f :=
  step_of_fetch_ok h ▸ runWord_ne_fault w s f

/-- A caller that continues past every record is always answered. -/
theorem runWord_continuePast {s : State} (w : Word) (hp : s.policy = .continuePast) : runWord w s =
    .next { s with insn := w, out := decodeRecord w, pc := s.pc + (decodeRecord w).length.setWidth 64 } := by
  rcases runWord_cases w with ⟨r, -, hd, ha⟩ | ⟨n, -, hd, he⟩ | ⟨n, -, hd, he⟩
  · rw [ha, hd]
  · rw [he, hd]
    exact emitIllegal_continuePast n (s.present w) hp
  · rw [he, hd]
    exact emitUnimplemented_continuePast n (s.present w) hp

/-- The two bytes of a word that needs no more make the record of any word with them in its low half. -/
theorem decodeRecord_eq_of_parcel {hi lo : Parcel} {w : Word} (hn : needsFourBytes lo = false)
    (hw : w.extractLsb' 0 16 = lo) : decodeRecord (hi ++ lo) = decodeRecord w := by
  refine decodeRecord_eq_of_bitsRead_eq (bitsRead_eq_of_lowHalf_eq ?_ ?_)
  · rw [hw, BitVec.extractLsb'_append_eq_right]
  · rw [wordSize_eq_ite, hw, hn]
    rfl

/-- Settles O51: the fetch supplies a word with the parcel in its low half, and no other bit of it is read. -/
theorem twoBytesAreEnough : Obligations.TwoBytesAreEnough := by
  intro s b0 b1 w hs hp h0 h1 hw hb
  have hn := not_needsFourBytes_append b1 hb
  obtain ⟨hi, hf⟩ := fetch_twoBytes hs (parcelAt_of_bytes h0 h1) hn
  refine ⟨_, (step_of_fetch_ok hf).trans (runWord_continuePast _ hp), decodeRecord_eq_of_parcel hn hw, ?_⟩
  exact BitVec.extractLsb'_append_eq_right

/-- Settles O52: the fetch supplies a word exactly if it finds the parcels it needs, and a word that is run never
faults. -/
theorem fetchFaultsWithoutAWord : Obligations.FetchFaultsWithoutAWord := by
  refine fun s => ⟨fun hs => ?_, fun hs h => ?_, fun hs b h0 hq hp h => ?_, ?_, fun hs b0 b1 h0 h1 hb => ?_⟩
  · exact step_of_fetch_error (fetch_misaligned s hs)
  · exact step_of_fetch_error (fetch_noParcel hs (parcelAt_eq_none h))
  · cases hlo : parcelAt s.mem s.pc with
    | none => exact step_of_fetch_error (fetch_noParcel hs hlo)
    | some lo =>
      obtain ⟨b0, b1, h0', -, rfl⟩ := parcelAt_eq_some hlo
      obtain rfl := Option.some.inj (h0.symm.trans h0')
      have hn : needsFourBytes (b1 ++ b) = true := by
        rw [needsFourBytes_append, Bool.and_eq_true, decide_eq_true_iff, decide_eq_true_iff]
        exact ⟨hq, hp⟩
      have hhi : parcelAt s.mem (s.pc + 2#64) = none := parcelAt_eq_none (by rwa [BitVec.add_assoc])
      exact step_of_fetch_error (fetch_noUpperParcel hs hlo hn hhi)
  · rintro f hf ⟨w, hw, hs⟩
    exact step_ne_fault_of_fetch_ok (fetch_of_bytesAt hs hw) f hf
  · obtain ⟨hi, hf⟩ := fetch_twoBytes hs (parcelAt_of_bytes h0 h1) (not_needsFourBytes_append b1 hb)
    exact step_ne_fault_of_fetch_ok hf

/-- The record has the length that the length law reads off the word (R80). -/
theorem decodeRecord_length_eq_wordSize (w : Word) : (decodeRecord w).length = BitVec.ofNat 3 (wordSize w) := by
  obtain ⟨hcompressed, hlong, hstandard⟩ := lengthLaw w
  by_cases hq : quadrant w = 0b11#2
  · by_cases hp : lengthPrefix w = 0b11111#5
    · rw [hlong hp, wordSize, if_neg fun h => h.2 hp]
    · rw [hstandard hq hp, wordSize_four w hq hp]
  · rw [hcompressed hq, wordSize_two w hq]

/-- Settles O53: the bytes of the fetched word are those of its parcels, and a record of four bytes is that of a word
whose upper parcel was needed. -/
theorem inputWordIsLittleEndian : Obligations.InputWordIsLittleEndian := by
  intro s t b0 b1 h h0 h1
  obtain ⟨-, w, hf, hw⟩ := step_next h
  obtain ⟨hinsn, hout, -⟩ := runWord_next_ports hw
  obtain ⟨hi, lo, rfl, hlo, hhi⟩ := fetch_ok hf
  obtain rfl := Option.some.inj (hlo.symm.trans (parcelAt_of_bytes h0 h1))
  rw [hinsn, hout]
  refine ⟨?_, ?_, fun hlen => ?_⟩
  · exact (BitVec.extractLsb'_append_eq_of_add_le (by decide)).trans BitVec.extractLsb'_append_eq_right
  · exact (BitVec.extractLsb'_append_eq_of_add_le (by decide)).trans BitVec.extractLsb'_append_eq_left
  · have hhi : parcelAt s.mem (s.pc + 2#64) = some hi := by
      refine hhi.resolve_right fun hn => ?_
      have hs := decodeRecord_length_eq_wordSize (hi ++ (b1 ++ b0))
      rw [wordSize_eq_ite, BitVec.extractLsb'_append_eq_right, hn] at hs
      cases hlen.symm.trans hs
    obtain ⟨b2, b3, h2, h3, rfl⟩ := parcelAt_eq_some hhi
    rw [BitVec.add_assoc] at h3
    refine ⟨h2.trans (congrArg some ?_), h3.trans (congrArg some ?_)⟩
    · exact ((BitVec.extractLsb'_append_eq_of_le (by decide)).trans BitVec.extractLsb'_append_eq_right).symm
    · exact ((BitVec.extractLsb'_append_eq_of_le (by decide)).trans BitVec.extractLsb'_append_eq_left).symm

/-! ### A placed word -/

/-- The four bytes of a word read back from where they were put (R61). -/
theorem bytesAt_storeWord (m : Memory) (a : Addr) (w : Word) : bytesAt (storeWord m a w) a w := by
  have h01 : a ≠ a + 1#64 := by bv_omega
  have h02 : a ≠ a + 2#64 := by bv_omega
  have h03 : a ≠ a + 3#64 := by bv_omega
  have h12 : a + 1#64 ≠ a + 2#64 := by bv_omega
  have h13 : a + 1#64 ≠ a + 3#64 := by bv_omega
  have h23 : a + 2#64 ≠ a + 3#64 := by bv_omega
  refine ⟨?_, ?_, ?_, readByte_writeByte_same ..⟩
  · rw [storeWord, readByte_writeByte_other _ _ _ _ h03, readByte_writeByte_other _ _ _ _ h02,
      readByte_writeByte_other _ _ _ _ h01]
    exact readByte_writeByte_same ..
  · rw [storeWord, readByte_writeByte_other _ _ _ _ h13, readByte_writeByte_other _ _ _ _ h12]
    exact readByte_writeByte_same ..
  · rw [storeWord, readByte_writeByte_other _ _ _ _ h23]
    exact readByte_writeByte_same ..

/-- Putting a word changes no other byte. -/
theorem readByte_storeWord_other (m : Memory) (a a' : Addr) (w : Word)
    (h : a' ∉ [a, a + 1#64, a + 2#64, a + 3#64]) : readByte (storeWord m a w) a' = readByte m a' := by
  simp only [List.mem_cons, List.not_mem_nil, or_false, not_or] at h
  obtain ⟨h0, h1, h2, h3⟩ := h
  rw [storeWord, readByte_writeByte_other _ _ _ _ h3, readByte_writeByte_other _ _ _ _ h2,
    readByte_writeByte_other _ _ _ _ h1, readByte_writeByte_other _ _ _ _ h0]

/-- Clearing the lowest bit of an aligned address changes nothing. -/
theorem and_alignMask {a : Addr} (h : a.extractLsb' 0 1 = 0#1) : a &&& 0xFFFFFFFFFFFFFFFE#64 = a := by
  have hhi : (0xFFFFFFFFFFFFFFFE#64).extractLsb' 1 63 = BitVec.allOnes 63 := by decide
  have hlo : (0xFFFFFFFFFFFFFFFE#64).extractLsb' 0 1 = 0#1 := by decide
  rw [← BitVec.extractLsb'_append_extractLsb' (len := 1) (x := a &&& 0xFFFFFFFFFFFFFFFE#64), BitVec.extractLsb'_and,
    BitVec.extractLsb'_and, hhi, hlo, BitVec.and_allOnes, BitVec.and_zero, ← h]
  exact BitVec.extractLsb'_append_extractLsb'

/-- From an aligned pc, placing a word puts its four bytes there and changes nothing else. -/
theorem withFetchWord_aligned {s : State} (nbits w : Nat) (hs : s.pcAligned) : s.withFetchWord nbits w =
    { s with mem := storeWord s.mem s.pc (BitVec.ofNat 32 (w % 2 ^ nbits)) } := by
  rw [State.withFetchWord, placeWord, and_alignMask hs]

/-- Settles O60: the four bytes placed at the pc are what the fetch reads. -/
theorem placedWordRunsNext : Obligations.PlacedWordRunsNext := by
  intro s nbits w hs
  rw [withFetchWord_aligned nbits w hs]
  exact ⟨rfl, step_of_fetch_ok (fetch_of_bytesAt hs (bytesAt_storeWord ..)),
    fun a ha => readByte_storeWord_other _ _ a _ ha, storeWord_wf _ _ _⟩

end Sys2Proof.Machine

namespace Sys2Proof

/-! ### Decode of encode -/

/-- Every well-formed instruction reads back from its encoding: by format, each field of the encoding is the operand or
the constant that was put there (R82, R83), and the immediates are the operands that the conditions leave (R85 to
R89). -/
theorem decode_encode {i : Instr} (h : i.wf = true) : decode (encode i) = .instr i := by
  cases i
  case cFld | cFsd =>
    simp only [Instr.wf, Bool.and_eq_true] at h
    obtain ⟨⟨h1, h2⟩, himm⟩ := h
    simp [encode, decode_compressed, decodeCompressed, compressedReg_creg _ h1, compressedReg_creg _ h2,
      immCL_encCL _ _ _ _ himm]
  case cFldsp => simp [encode, decode_compressed, decodeCompressed, immCI_encCI _ _ _ h]
  case cFsdsp => simp [encode, decode_compressed, decodeCompressed, immCSS_encCSS _ _ _ h]
  case flw | fld => simp [encode, decode_loadFp, decodeLoadFp, immI_encI _ _ _ _ _ h]
  case fsw | fsd => simp [encode, decode_storeFp, decodeStoreFp, immS_encS _ _ _ _ _ h]
  case lrW | scW | amoswapW | amoaddW | amoxorW | amoandW | amoorW | amominW | amomaxW | amominuW | amomaxuW =>
    simp [encode, decode_amo, decodeAmo, decodeAmoW]
  case lrD | scD | amoswapD | amoaddD | amoxorD | amoandD | amoorD | amominD | amomaxD | amominuD | amomaxuD =>
    simp [encode, decode_amo, decodeAmo, decodeAmoD]
  case fmaddS | fmaddD => simp [encode, decode_madd, decodeFma]
  case fmsubS | fmsubD => simp [encode, decode_msub, decodeFma]
  case fnmsubS | fnmsubD => simp [encode, decode_nmsub, decodeFma]
  case fnmaddS | fnmaddD => simp [encode, decode_nmadd, decodeFma]
  case faddS | fsubS | fmulS | fdivS | faddD | fsubD | fmulD | fdivD =>
    simp [encode, decode_opFp, decodeOpFp, opFpArith]
  case fsqrtS | fsqrtD | fcvtSD | fcvtDS => simp [encode, decode_opFp, decodeOpFp, opFpUnary]
  case fsgnjS | fsgnjnS | fsgnjxS | fsgnjD | fsgnjnD | fsgnjxD | feqS | fltS | fleS | feqD | fltD | fleD =>
    simp [encode, decode_opFp, decodeOpFp, opFpSelect3]
  case fminS | fmaxS | fminD | fmaxD => simp [encode, decode_opFp, decodeOpFp, opFpSelect2]
  case fcvtWS | fcvtWuS | fcvtLS | fcvtLuS | fcvtWD | fcvtWuD | fcvtLD | fcvtLuD
      | fcvtSW | fcvtSWu | fcvtSL | fcvtSLu | fcvtDW | fcvtDWu | fcvtDL | fcvtDLu =>
    simp [encode, decode_opFp, decodeOpFp, opFpConvert]
  case fmvXW | fclassS | fmvXD | fclassD => simp [encode, decode_opFp, decodeOpFp, opFpMoveClass]
  case fmvWX | fmvDX => simp [encode, decode_opFp, decodeOpFp, opFpMoveIn]
  all_goals rfl

/-- An encoding holds nothing but bits that the block may read. -/
theorem bitsRead_encode {i : Instr} (h : i.wf = true) : bitsRead (encode i) = encode i := by
  by_cases hq : quadrant (encode i) = 0b11#2
  · by_cases hp : lengthPrefix (encode i) = 0b11111#5
    · obtain rfl := Decoded.instr.inj ((decode_encode h).symm.trans (decode_long hp))
      rfl
    · exact bitsRead_standard hq hp
  · obtain ⟨hsize, hlow⟩ := Laws.EncodingFormat.statement i
    rw [bitsRead_compressed hq]
    apply BitVec.eq_of_toNat_eq
    rw [toNat_lowHalf]
    exact Nat.mod_eq_of_lt (hlow (hsize.trans (wordSize_two _ hq)))

theorem getElem?_encodeBytes {i : Instr} {k : Nat} (h : k < i.size) :
    (encodeBytes i)[k]? = some ((encode i).extractLsb' (8 * k) 8) := by
  simp [encodeBytes, h]

end Sys2Proof

namespace Sys2Proof.Machine

theorem size_eq_two_or_four (i : Instr) : i.size = 2 ∨ i.size = 4 := by
  rw [size_eq_wordSize_encode, wordSize]
  split
  · exact .inr rfl
  · exact .inl rfl

theorem size_pos (i : Instr) : 0 < i.size := by
  rcases size_eq_two_or_four i with h | h <;> rw [h] <;> decide

/-- The bytes of an encoding at an aligned pc are fetched as a word that agrees with it on the bits that the block may
read. -/
theorem fetch_of_encodeBytes {s : State} {i : Instr} (hwf : i.wf = true) (hs : s.pcAligned)
    (h : ∀ k < i.size, readByte s.mem (s.pc + BitVec.ofNat 64 k) = (encodeBytes i)[k]?) :
    ∃ w, fetch s = .ok w ∧ bitsRead w = encode i := by
  have hb k (hk : k < i.size) := (h k hk).trans (getElem?_encodeBytes hk)
  have h0 : readByte s.mem s.pc = some ((encode i).extractLsb' 0 8) :=
    (congrArg (readByte s.mem) (BitVec.add_zero s.pc)).symm.trans (hb 0 (size_pos i))
  have hsize := size_eq_wordSize_encode i
  rcases size_eq_two_or_four i with hn | hn <;> rw [hn] at hb hsize
  · have hlo : parcelAt s.mem s.pc = some ((encode i).extractLsb' 0 16) :=
      (parcelAt_of_bytes h0 (hb 1 (by decide))).trans
        (congrArg some (BitVec.extractLsb'_append_extractLsb'_eq_extractLsb' rfl))
    have hneeds : needsFourBytes ((encode i).extractLsb' 0 16) = false := by
      by_contra hneeds
      rw [wordSize_eq_ite, if_pos (Bool.eq_true_of_not_eq_false hneeds)] at hsize
      cases hsize
    obtain ⟨hi, hf⟩ := fetch_twoBytes hs hlo hneeds
    have hw := bitsRead_eq_of_lowHalf_eq (v := hi ++ (encode i).extractLsb' 0 16)
      BitVec.extractLsb'_append_eq_right hsize.symm
    exact ⟨_, hf, hw.trans (bitsRead_encode hwf)⟩
  · exact ⟨encode i, fetch_of_bytesAt hs ⟨h0, hb 1 (by decide), hb 2 (by decide), hb 3 (by decide)⟩,
      bitsRead_encode hwf⟩

/-- Settles O50: the fetched word agrees with the encoding on the bits that determine what it decodes to. -/
theorem encodedInstructionRuns : Obligations.EncodedInstructionRuns := by
  intro s i hwf hs hb
  obtain ⟨w, hf, hw⟩ := fetch_of_encodeBytes hwf hs hb
  have hd : decode w = .instr i := by rw [← decode_bitsRead, hw, decode_encode hwf]
  exact ⟨w, (step_of_fetch_ok hf).trans (runWord_instr w i s hd), hw⟩

/-! ### The size of the access (R65) -/

/-- The size of the access for a standard word, by major opcode and `funct3` (R98, R99). -/
def majorAccess (op : BitVec 7) (f3 : BitVec 3) : Nat :=
  if op ∈ [0b0000111#7, 0b0100111#7, 0b0101111#7] then (if f3 = 0b010#3 then 4 else 8) else 0

/-- The size of the access for a word that is an instruction. -/
def wordAccess (w : Word) : Nat := if quadrant w ≠ 0b11#2 then 8 else majorAccess (opcode7 w) (funct3 w)

theorem wordAccess_compressed {w : Word} (hq : quadrant w ≠ 0b11#2) : wordAccess w = 8 := if_pos hq

theorem wordAccess_standard {w : Word} (hq : quadrant w = 0b11#2) :
    wordAccess w = majorAccess (opcode7 w) (funct3 w) := if_neg (not_not.2 hq)

theorem wordAccess_bitsRead {w : Word} (hp : lengthPrefix w ≠ 0b11111#5) : wordAccess (bitsRead w) = wordAccess w := by
  by_cases hq : quadrant w = 0b11#2
  · rw [bitsRead_standard hq hp]
  · rw [bitsRead_compressed hq, wordAccess_compressed hq, wordAccess_compressed (quadrant_lowHalf w ▸ hq)]

section Access

variable {w : Word} {i : Instr} {r : Record} (hd : decode w = .instr i) (he : ∀ s, exec i s = emit r s)

include hd he

/-- A compressed instruction that is decoded accesses eight bytes. -/
theorem accessBytes_compressed (hq : quadrant (encode i) ≠ 0b11#2) (hr : r.opcode.accessBytes = 8) :
    (decodeRecord w).opcode.accessBytes = wordAccess (encode i) := by
  rw [decodeRecord_of_emit hd he, hr, wordAccess_compressed hq]

/-- A standard instruction accesses what its major opcode and `funct3` say. -/
theorem accessBytes_standard {op : BitVec 7} {f3 : BitVec 3} (ho : opcode7 (encode i) = op)
    (h3 : funct3 (encode i) = f3) (hq : op.extractLsb' 0 2 = 0b11#2) (hr : r.opcode.accessBytes = majorAccess op f3) :
    (decodeRecord w).opcode.accessBytes = wordAccess (encode i) := by
  rw [decodeRecord_of_emit hd he, hr, wordAccess_standard (by rw [quadrant_eq_opcode7, ho, hq]), ho, h3]

end Access

/-- The access of a decoded tag is the one of its encoding, by format. -/
theorem accessBytes_of_decode {w : Word} {i : Instr} (hd : decode w = .instr i)
    (hop : (decodeRecord w).opcode.isInstruction = true) :
    (decodeRecord w).opcode.accessBytes = wordAccess (encode i) := by
  cases i
  case cFld | cFsd => exact accessBytes_compressed hd (fun _ => rfl) (by rw [encode, quadrant_encCL]; decide) rfl
  case cFldsp => exact accessBytes_compressed hd (fun _ => rfl) (by rw [encode, quadrant_encCI]; decide) rfl
  case cFsdsp => exact accessBytes_compressed hd (fun _ => rfl) (by rw [encode, quadrant_encCSS]; decide) rfl
  case flw | fld => exact accessBytes_standard hd (fun _ => rfl) (opcode7_encI ..) (funct3_encI ..) rfl rfl
  case fsw | fsd => exact accessBytes_standard hd (fun _ => rfl) (opcode7_encS ..) (funct3_encS ..) rfl rfl
  case fmaddS | fmsubS | fnmsubS | fnmaddS | fmaddD | fmsubD | fnmsubD | fnmaddD =>
    exact accessBytes_standard hd (fun _ => rfl) (opcode7_encR4 ..) (funct3_encR4 ..) rfl rfl
  case lrW | scW | amoswapW | amoaddW | amoxorW | amoandW | amoorW | amominW | amomaxW | amominuW | amomaxuW
      | lrD | scD | amoswapD | amoaddD | amoxorD | amoandD | amoorD | amominD | amomaxD | amominuD | amomaxuD
      | faddS | fsubS | fmulS | fdivS | fsqrtS | fsgnjS | fsgnjnS | fsgnjxS | fminS | fmaxS | fcvtWS | fcvtWuS | fcvtLS
      | fcvtLuS | fmvXW | fclassS | feqS | fltS | fleS | fcvtSW | fcvtSWu | fcvtSL | fcvtSLu | fmvWX | fcvtSD
      | faddD | fsubD | fmulD | fdivD | fsqrtD | fsgnjD | fsgnjnD | fsgnjxD | fminD | fmaxD | fcvtWD | fcvtWuD | fcvtLD
      | fcvtLuD | fmvXD | fclassD | feqD | fltD | fleD | fcvtDW | fcvtDWu | fcvtDL | fcvtDLu | fmvDX | fcvtDS =>
    exact accessBytes_standard hd (fun _ => rfl) (opcode7_encR ..) (funct3_encR ..) rfl rfl
  case illegalLong => rw [decodeRecord_of_long hd] at hop; cases hop
  all_goals
    rw [decodeRecord_of_unimplemented hd fun _ => rfl] at hop
    cases hop

/-- Settles O37: the access of the tag is the one of the encoding, which is the word on the bits that the block may
read. -/
theorem accessWidthFollowsFunct3 : Obligations.AccessWidthFollowsFunct3 := by
  intro w hop
  have hp : lengthPrefix w ≠ 0b11111#5 := fun hp => by
    rw [decodeRecord_of_long (decode_long hp)] at hop
    cases hop
  cases hd : decode w with
  | illegal c => rw [decodeRecord_of_illegal hd] at hop; cases hop
  | instr i =>
    rcases (encodeOfDecode w i hd).2 with rfl | hu | he
    · rw [decodeRecord_of_long hd] at hop; cases hop
    · rw [hu] at hop; cases hop
    · rw [accessBytes_of_decode hd hop, he, wordAccess_bitsRead hp]
      rfl

end Sys2Proof.Machine

namespace Sys2Proof

/-! ### A word under the mask of a row (R105) -/

/-- Two words with the same pair and the same bits beside it are the same. -/
theorem word_ext_pair {x y : Word} (hu : x.extractLsb' 16 16 = y.extractLsb' 16 16) (h3 : cfunct3 x = cfunct3 y)
    (hm : x.extractLsb' 2 11 = y.extractLsb' 2 11) (hq : quadrant x = quadrant y) : x = y := by
  have := x.isLt
  have := y.isLt
  apply BitVec.eq_of_toNat_eq
  have hu := congrArg BitVec.toNat hu
  have h3 := congrArg BitVec.toNat h3
  have hm := congrArg BitVec.toNat hm
  have hq := congrArg BitVec.toNat hq
  simp only [toNat_slice, toNat_cfunct3, toNat_quadrant] at hu h3 hm hq
  omega

/-- Under the mask of a compressed pair (R97). -/
theorem and_pairMask (w : Word) : w &&& 0x0000E003#32 = encPair (cfunct3 w) (quadrant w) := by
  have hu : (encPair (cfunct3 w) (quadrant w)).extractLsb' 16 16 = 0#16 := by
    apply BitVec.eq_of_toNat_eq
    rw [toNat_slice, toNat_encPair, BitVec.toNat_ofNat]
    omega
  have hm : (encPair (cfunct3 w) (quadrant w)).extractLsb' 2 11 = 0#11 := by
    apply BitVec.eq_of_toNat_eq
    rw [toNat_slice, toNat_encPair, BitVec.toNat_ofNat]
    omega
  exact word_ext_pair (slice_and_zero 16 16 rfl hu) (slice_and_ones 13 3 rfl (cfunct3_encPair ..).symm)
    (slice_and_zero 2 11 rfl hm) (slice_and_ones 0 2 rfl (quadrant_encPair ..).symm)

/-- Under the mask of a major opcode (R95). -/
theorem and_majorMask (w : Word) : w &&& 0x0000007F#32 = encMajor (opcode7 w) := by
  apply BitVec.eq_of_toNat_eq
  rw [BitVec.toNat_and, toNat_encMajor, toNat_opcode7, Nat.div_one]
  exact Nat.and_two_pow_sub_one_eq_mod w.toNat 7

theorem covers_iff {r : Row} {w : Word} : r.covers w = true ↔ w &&& r.mask = r.value := decide_eq_true_iff

theorem encR_and (f7 f7' : BitVec 7) (rs2 rs2' rs1 rs1' : Reg) (f3 f3' : BitVec 3) (rd rd' : Reg) (op op' : BitVec 7) :
    encR f7 rs2 rs1 f3 rd op &&& encR f7' rs2' rs1' f3' rd' op' =
      encR (f7 &&& f7') (rs2 &&& rs2') (rs1 &&& rs1') (f3 &&& f3') (rd &&& rd') (op &&& op') := by
  rw [encR, encR, ← BitVec.setWidth_and]
  simp only [BitVec.and_append]
  rfl

theorem encI_eq_encR (imm : Imm) (rs1 : Reg) (f3 : BitVec 3) (rd : Reg) (op : BitVec 7) :
    encI imm rs1 f3 rd op = encR (imm.extractLsb' 5 7) (imm.extractLsb' 0 5) rs1 f3 rd op := by
  have h : imm.extractLsb' 5 7 ++ imm.extractLsb' 0 5 = imm.extractLsb' 0 12 :=
    BitVec.extractLsb'_append_extractLsb'_eq_extractLsb' rfl
  rw [encR, h, encI]

theorem encS_eq_encR (imm : Imm) (rs2 rs1 : Reg) (f3 : BitVec 3) (op : BitVec 7) :
    encS imm rs2 rs1 f3 op = encR (imm.extractLsb' 5 7) rs2 rs1 f3 (imm.extractLsb' 0 5) op := rfl

theorem encR4_eq_encR (rs3 : Reg) (fmt : BitVec 2) (rs2 rs1 : Reg) (f3 : BitVec 3) (rd : Reg) (op : BitVec 7) :
    encR4 rs3 fmt rs2 rs1 f3 rd op = encR (rs3 ++ fmt) rs2 rs1 f3 rd op := rfl

/-- A word put together from its fields matches a row whose mask, with the parts `f7m`, `rs2m` and `f3m` of the fields
that may select, keeps the row's value of it. No mask takes in `rs1` or `rd`. -/
theorem covers_encR {r : Row} {f7 : BitVec 7} {rs2 rs1 rd : Reg} {f3 : BitVec 3} {op : BitVec 7}
    (f7m : BitVec 7) (rs2m : Reg) (f3m : BitVec 3)
    (hm : r.mask = encR f7m rs2m 0#5 f3m 0#5 (BitVec.allOnes 7))
    (hv : r.value = encR (f7 &&& f7m) (rs2 &&& rs2m) 0#5 (f3 &&& f3m) 0#5 op) :
    r.covers (encR f7 rs2 rs1 f3 rd op) = true := by
  rw [Row.covers, decide_eq_true_iff, hm, hv, encR_and, BitVec.and_zero, BitVec.and_zero, BitVec.and_allOnes]

/-- The encoding of an instruction matches its row: the fields of the row's mask hold the constants of the encoding. -/
theorem row_covers_encode (i : Instr) : i.row.covers (encode i) = true := by
  cases i
  case flw | fld =>
    rw [encode, encI_eq_encR]
    exact covers_encR 0#7 0#5 0b111#3 rfl (by rw [BitVec.and_zero, BitVec.and_zero]; rfl)
  case fsw | fsd =>
    rw [encode, encS_eq_encR]
    exact covers_encR 0#7 0#5 0b111#3 rfl (by rw [BitVec.and_zero, BitVec.and_zero]; rfl)
  case lrW | lrD =>
    exact covers_encR (0b11111#5 ++ 0#2) 0b11111#5 0b111#3 rfl (by rw [BitVec.and_append, BitVec.and_zero]; rfl)
  case scW | amoswapW | amoaddW | amoxorW | amoandW | amoorW | amominW | amomaxW | amominuW | amomaxuW
      | scD | amoswapD | amoaddD | amoxorD | amoandD | amoorD | amominD | amomaxD | amominuD | amomaxuD =>
    exact covers_encR (0b11111#5 ++ 0#2) 0#5 0b111#3 rfl
      (by rw [BitVec.and_append, BitVec.and_zero, BitVec.and_zero]; rfl)
  case fmaddS | fmsubS | fnmsubS | fnmaddS | fmaddD | fmsubD | fnmsubD | fnmaddD =>
    rw [encode, encR4_eq_encR]
    exact covers_encR (0#5 ++ 0b11#2) 0#5 0#3 rfl
      (by rw [BitVec.and_append, BitVec.and_zero, BitVec.and_zero, BitVec.and_zero]; rfl)
  case faddS | fsubS | fmulS | fdivS | faddD | fsubD | fmulD | fdivD =>
    exact covers_encR 0b1111111#7 0#5 0#3 rfl (by rw [BitVec.and_zero, BitVec.and_zero]; rfl)
  case fsgnjS | fsgnjnS | fsgnjxS | fminS | fmaxS | feqS | fltS | fleS
      | fsgnjD | fsgnjnD | fsgnjxD | fminD | fmaxD | feqD | fltD | fleD =>
    exact covers_encR 0b1111111#7 0#5 0b111#3 rfl (by rw [BitVec.and_zero]; rfl)
  case fmvXW | fclassS | fmvWX | fmvXD | fclassD | fmvDX =>
    exact covers_encR 0b1111111#7 0b11111#5 0b111#3 rfl rfl
  case fsqrtS | fcvtWS | fcvtWuS | fcvtLS | fcvtLuS | fcvtSW | fcvtSWu | fcvtSL | fcvtSLu | fcvtSD
      | fsqrtD | fcvtWD | fcvtWuD | fcvtLD | fcvtLuD | fcvtDW | fcvtDWu | fcvtDL | fcvtDLu | fcvtDS =>
    exact covers_encR 0b1111111#7 0b11111#5 0#3 rfl (by rw [BitVec.and_zero]; rfl)
  case cFld | cFsd => exact covers_iff.2 ((and_pairMask _).trans (by rw [encode, cfunct3_encCL, quadrant_encCL]; rfl))
  case cFldsp => exact covers_iff.2 ((and_pairMask _).trans (by rw [encode, cfunct3_encCI, quadrant_encCI]; rfl))
  case cFsdsp => exact covers_iff.2 ((and_pairMask _).trans (by rw [encode, cfunct3_encCSS, quadrant_encCSS]; rfl))
  all_goals rfl

/-- The row of what a word decodes to, if it is an instruction. -/
def Decoded.row : Decoded → Option Row
  | .instr i => some i.row
  | .illegal _ => none

/-- Every arm of the compressed demultiplexer has the row of the word's pair. -/
theorem row_decodeCompressed {w : Word} (hq : quadrant w ≠ 0b11#2) :
    (decodeCompressed w).row = ⟨0x0000E003#32, encPair (cfunct3 w) (quadrant w)⟩ := by
  unfold decodeCompressed
  split
  case h_25 hq' => exact absurd hq' hq
  all_goals next hq h3 => rw [hq, h3]; rfl

theorem row_decode_delegatedMajor {w : Word} (h : opcode7 w ∈ Machine.delegatedMajors) :
    (decode w).row = some ⟨0x0000007F#32, encMajor (opcode7 w)⟩ := by
  simp only [Machine.delegatedMajors, List.mem_cons, List.not_mem_nil, or_false] at h
  rcases h with h | h | h | h | h | h | h | h | h | h | h | h | h | h | h | h | h | h | h | h <;>
    rw [decode_major h (by decide) (by decide), decodeStandard, h] <;> rfl

theorem row_decode_of_pair {w v : Word} (h : w &&& 0x0000E003#32 = v) (hv : quadrant v ≠ 0b11#2) :
    (decode w).row = some ⟨0x0000E003#32, v⟩ := by
  rw [← quadrant_of_row h rfl] at hv
  rw [decode_compressed hv, Decoded.row, row_decodeCompressed hv, ← and_pairMask, h]

theorem row_decode_of_major {w v : Word} (h : w &&& 0x0000007F#32 = v) (hv : opcode7 v ∈ Machine.delegatedMajors) :
    (decode w).row = some ⟨0x0000007F#32, v⟩ := by
  rw [← opcode7_of_row h rfl] at hv
  rw [row_decode_delegatedMajor hv, ← and_majorMask, h]

/-- A word that matches a row decodes to an instruction of it: the mask covers every field that the decoder compares on
the way to the row's arm, so these fields hold the row's constants. -/
theorem row_decode_of_covers {i : Instr} {w : Word} (h : i.row.covers w = true) : (decode w).row = some i.row := by
  have h := covers_iff.1 h
  cases i <;> dsimp only [Instr.row] at h ⊢
  case illegalLong => rw [decode_long (lengthPrefix_of_row h rfl)]; rfl
  case flw | fld => rw [decode_loadFp (opcode7_of_row h rfl), decodeLoadFp, funct3_of_row h rfl]; rfl
  case fsw | fsd => rw [decode_storeFp (opcode7_of_row h rfl), decodeStoreFp, funct3_of_row h rfl]; rfl
  case lrW | lrD =>
    rw [decode_amo (opcode7_of_row h rfl), decodeAmo, funct3_of_row h rfl, decodeAmoW, decodeAmoD,
      funct5_of_row h rfl]
    exact congrArg Decoded.row (if_pos (fieldRs2_of_row h rfl))
  case scW | amoswapW | amoaddW | amoxorW | amoandW | amoorW | amominW | amomaxW | amominuW | amomaxuW
      | scD | amoswapD | amoaddD | amoxorD | amoandD | amoorD | amominD | amomaxD | amominuD | amomaxuD =>
    rw [decode_amo (opcode7_of_row h rfl), decodeAmo, funct3_of_row h rfl, decodeAmoW, decodeAmoD,
      funct5_of_row h rfl]
    rfl
  case fmaddS | fmaddD => rw [decode_madd (opcode7_of_row h rfl), decodeFma, fmt2_of_row h rfl]; rfl
  case fmsubS | fmsubD => rw [decode_msub (opcode7_of_row h rfl), decodeFma, fmt2_of_row h rfl]; rfl
  case fnmsubS | fnmsubD => rw [decode_nmsub (opcode7_of_row h rfl), decodeFma, fmt2_of_row h rfl]; rfl
  case fnmaddS | fnmaddD => rw [decode_nmadd (opcode7_of_row h rfl), decodeFma, fmt2_of_row h rfl]; rfl
  case faddS | fsubS | fmulS | fdivS | faddD | fsubD | fmulD | fdivD =>
    rw [decode_opFp (opcode7_of_row h rfl), decodeOpFp, funct7_of_row h rfl]
    rfl
  case fsqrtS | fsqrtD | fcvtSD | fcvtDS =>
    rw [decode_opFp (opcode7_of_row h rfl), decodeOpFp, funct7_of_row h rfl]
    exact congrArg Decoded.row (if_pos (fieldRs2_of_row h rfl))
  case fsgnjS | fsgnjnS | fsgnjxS | fsgnjD | fsgnjnD | fsgnjxD | feqS | fltS | fleS | feqD | fltD | fleD =>
    rw [decode_opFp (opcode7_of_row h rfl), decodeOpFp, funct7_of_row h rfl]
    change (opFpSelect3 w _ _ _).row = _
    rw [opFpSelect3, funct3_of_row h rfl]
    rfl
  case fminS | fmaxS | fminD | fmaxD =>
    rw [decode_opFp (opcode7_of_row h rfl), decodeOpFp, funct7_of_row h rfl]
    change (opFpSelect2 w _ _).row = _
    rw [opFpSelect2, funct3_of_row h rfl]
    rfl
  case fcvtWS | fcvtWuS | fcvtLS | fcvtLuS | fcvtWD | fcvtWuD | fcvtLD | fcvtLuD
      | fcvtSW | fcvtSWu | fcvtSL | fcvtSLu | fcvtDW | fcvtDWu | fcvtDL | fcvtDLu =>
    rw [decode_opFp (opcode7_of_row h rfl), decodeOpFp, funct7_of_row h rfl]
    change (opFpConvert w _ _ _ _).row = _
    rw [opFpConvert, fieldRs2_of_row h rfl]
    rfl
  case fmvXW | fclassS | fmvXD | fclassD =>
    rw [decode_opFp (opcode7_of_row h rfl), decodeOpFp, funct7_of_row h rfl]
    have h2 : fieldRs2 w = 0#5 := fieldRs2_of_row h rfl
    change (opFpMoveClass w _ _).row = _
    rw [opFpMoveClass, if_pos h2, funct3_of_row h rfl]
    rfl
  case fmvWX | fmvDX =>
    rw [decode_opFp (opcode7_of_row h rfl), decodeOpFp, funct7_of_row h rfl]
    have h2 : fieldRs2 w = 0#5 := fieldRs2_of_row h rfl
    change (opFpMoveIn w _).row = _
    rw [opFpMoveIn, if_pos h2, funct3_of_row h rfl]
    rfl
  case unimpCAddi4spn | unimpCLw | unimpCLd | unimpCReserved | unimpCSw | unimpCSd | unimpCNopAddi | unimpCAddiw
      | unimpCLi | unimpCLuiAddi16sp | unimpCMiscAlu | unimpCJ | unimpCBeqz | unimpCBnez | unimpCSlli | unimpCLwsp
      | unimpCLdsp | unimpCJrMvAdd | unimpCSwsp | unimpCSdsp | cFld | cFsd | cFldsp | cFsdsp =>
    exact row_decode_of_pair h (by decide)
  all_goals exact row_decode_of_major h (by decide)

/-! ### Which words of a decoded major opcode match no row (R102) -/

/-- The decoder answers with a rejection by name. -/
def Decoded.Rejected (d : Decoded) : Prop := ∃ c, d = .illegal c

@[simp] theorem rejected_illegal (c : IllegalCase) : (Decoded.illegal c).Rejected := ⟨c, rfl⟩

@[simp] theorem not_rejected_instr (i : Instr) : ¬ (Decoded.instr i).Rejected := nofun

theorem decodeLoadFp_rejected (w : Word) : (decodeLoadFp w).Rejected ↔ funct3 w ∉ [0b010#3, 0b011#3] := by
  unfold decodeLoadFp
  split
  case h_3 h2 h3 => simpa using ⟨h2, h3⟩
  all_goals next h3 => simp [h3]

theorem decodeStoreFp_rejected (w : Word) : (decodeStoreFp w).Rejected ↔ funct3 w ∉ [0b010#3, 0b011#3] := by
  unfold decodeStoreFp
  split
  case h_3 h2 h3 => simpa using ⟨h2, h3⟩
  all_goals next h3 => simp [h3]

/-- The part of R203 that does not depend on the width: an operation outside the table, or an LR with `rs2` not 0. -/
abbrev amoOperationIllegal (w : Word) : Prop :=
  funct5 w ∉ Machine.amoFunct5s ∨ (funct5 w = 0b00010#5 ∧ fieldRs2 w ≠ 0#5)

theorem decodeAmoW_rejected (w : Word) : (decodeAmoW w).Rejected ↔ amoOperationIllegal w := by
  unfold decodeAmoW
  split
  case h_1 h5 => split <;> next h2 => simp [amoOperationIllegal, h5, h2, Machine.amoFunct5s]
  case h_12 => simp_all [amoOperationIllegal, Machine.amoFunct5s]
  all_goals next h5 => simp [amoOperationIllegal, h5, Machine.amoFunct5s]

theorem decodeAmoD_rejected (w : Word) : (decodeAmoD w).Rejected ↔ amoOperationIllegal w := by
  unfold decodeAmoD
  split
  case h_1 h5 => split <;> next h2 => simp [amoOperationIllegal, h5, h2, Machine.amoFunct5s]
  case h_12 => simp_all [amoOperationIllegal, Machine.amoFunct5s]
  all_goals next h5 => simp [amoOperationIllegal, h5, Machine.amoFunct5s]

theorem decodeAmo_rejected (w : Word) : (decodeAmo w).Rejected ↔ Machine.amoIllegal w := by
  change _ ↔ funct3 w ∉ [0b010#3, 0b011#3] ∨ amoOperationIllegal w
  unfold decodeAmo
  split
  case h_1 h3 => simp [h3, decodeAmoW_rejected]
  case h_2 h3 => simp [h3, decodeAmoD_rejected]
  case h_3 h2 h3 => simpa using .inl ⟨h2, h3⟩

/-- A format is one of the two precisions or one of the two others. -/
theorem fmt_cases : ∀ f : BitVec 2, f ≠ 0b00#2 → f ≠ 0b01#2 → f ∈ [0b10#2, 0b11#2] := by decide

theorem decodeFma_rejected (w : Word) (single double : Reg → Reg → Reg → Reg → Rm → Instr) :
    (decodeFma w single double).Rejected ↔ fmt2 w ∈ [0b10#2, 0b11#2] := by
  unfold decodeFma
  split
  case h_3 h0 h1 => simpa using fmt_cases _ h0 h1
  all_goals next hf => simp [hf]

/-! The OP-FP map by `funct7`: each shape of arm accepts what the rows of its `funct7` ask of `rs2` and `funct3`. -/

/-- The selectors that the rows of a `funct7` ask for (R100). -/
def opFpSelectors (f7 : BitVec 7) : List (Option Reg × Option Rm) :=
  ((Machine.opFpSingleRows ++ Machine.opFpDoubleRows).filter fun row => f7 = row.funct7).map
    fun row => (row.rs2, row.funct3)

/-- The word's `rs2` and `funct3` agree with some of these selectors. -/
def SelectorsAgree (w : Word) (sels : List (Option Reg × Option Rm)) : Prop :=
  ∃ sel ∈ sels, Machine.agrees sel.1 (fieldRs2 w) = true ∧ Machine.agrees sel.2 (funct3 w) = true

theorem opFpListed_iff (w : Word) : Machine.opFpListed w ↔ SelectorsAgree w (opFpSelectors (funct7 w)) := by
  simp only [SelectorsAgree, opFpSelectors, List.mem_map, List.mem_filter, decide_eq_true_eq]
  constructor
  · rintro ⟨row, hrow, h7, h2, h3⟩
    exact ⟨_, ⟨row, ⟨hrow, h7⟩, rfl⟩, h2, h3⟩
  · rintro ⟨_, ⟨row, ⟨hrow, h7⟩, rfl⟩, h2, h3⟩
    exact ⟨row, hrow, h7, h2, h3⟩

/-- The order of the rows does not matter. -/
theorem selectorsAgree_perm {w : Word} {l l' : List (Option Reg × Option Rm)} (h : l.Perm l') :
    SelectorsAgree w l ↔ SelectorsAgree w l' := by
  simp only [SelectorsAgree, h.mem_iff]

section OpFp

variable (w : Word)

theorem opFpArith_rejected (i : Reg → Reg → Reg → Rm → Instr) :
    (opFpArith w i).Rejected ↔ ¬ SelectorsAgree w [(none, none)] := by
  simp [opFpArith, SelectorsAgree, Machine.agrees]

theorem opFpUnary_rejected (sel : Reg) (i : Reg → Reg → Rm → Instr) :
    (opFpUnary w sel i).Rejected ↔ ¬ SelectorsAgree w [(some sel, none)] := by
  unfold opFpUnary
  split <;> simp_all [SelectorsAgree, Machine.agrees]

theorem opFpConvert_rejected (cw cwu cl clu : Reg → Reg → Rm → Instr) :
    (opFpConvert w cw cwu cl clu).Rejected ↔
      ¬ SelectorsAgree w [(some 0#5, none), (some 1#5, none), (some 2#5, none), (some 3#5, none)] := by
  unfold opFpConvert
  split <;> simp_all [SelectorsAgree, Machine.agrees]

theorem opFpSelect3_rejected (f0 f1 f2 : Reg → Reg → Reg → Instr) :
    (opFpSelect3 w f0 f1 f2).Rejected ↔
      ¬ SelectorsAgree w [(none, some 0#3), (none, some 1#3), (none, some 2#3)] := by
  unfold opFpSelect3
  split <;> simp_all [SelectorsAgree, Machine.agrees]

theorem opFpSelect2_rejected (f0 f1 : Reg → Reg → Reg → Instr) :
    (opFpSelect2 w f0 f1).Rejected ↔ ¬ SelectorsAgree w [(none, some 0#3), (none, some 1#3)] := by
  unfold opFpSelect2
  split <;> simp_all [SelectorsAgree, Machine.agrees]

theorem opFpMoveClass_rejected (move classify : Reg → Reg → Instr) :
    (opFpMoveClass w move classify).Rejected ↔
      ¬ SelectorsAgree w [(some 0#5, some 0#3), (some 0#5, some 1#3)] := by
  unfold opFpMoveClass
  split
  · split <;> simp_all [SelectorsAgree, Machine.agrees]
  · simp_all [SelectorsAgree, Machine.agrees]

theorem opFpMoveIn_rejected (move : Reg → Reg → Instr) :
    (opFpMoveIn w move).Rejected ↔ ¬ SelectorsAgree w [(some 0#5, some 0#3)] := by
  unfold opFpMoveIn
  split
  · split <;> simp_all [SelectorsAgree, Machine.agrees]
  · simp_all [SelectorsAgree, Machine.agrees]

end OpFp

/-- The arms by their numbers in the decoder, each by the shape it takes. -/
theorem decodeOpFp_rejected (w : Word) : (decodeOpFp w).Rejected ↔ ¬ Machine.opFpListed w := by
  rw [opFpListed_iff]
  unfold decodeOpFp
  split
  case h_1 h7 | h_2 h7 | h_3 h7 | h_4 h7 | h_5 h7 | h_6 h7 | h_7 h7 | h_8 h7 =>
    rw [h7]; exact opFpArith_rejected ..
  case h_9 h7 | h_10 h7 | h_25 h7 | h_26 h7 => rw [h7]; exact opFpUnary_rejected ..
  case h_11 h7 | h_12 h7 => rw [h7]; exact opFpSelect3_rejected ..
  case h_13 h7 | h_14 h7 => rw [h7]; exact opFpSelect2_rejected ..
  case h_15 h7 | h_16 h7 =>
    rw [h7]
    exact (opFpSelect3_rejected ..).trans (not_congr (selectorsAgree_perm (by decide)))
  case h_17 h7 | h_18 h7 | h_19 h7 | h_20 h7 => rw [h7]; exact opFpConvert_rejected ..
  case h_21 h7 | h_22 h7 => rw [h7]; exact opFpMoveClass_rejected ..
  case h_23 h7 | h_24 h7 => rw [h7]; exact opFpMoveIn_rejected ..
  case h_27 =>
    have hnone : opFpSelectors (funct7 w) = [] := by
      simp_all [opFpSelectors, Machine.opFpSingleRows, Machine.opFpDoubleRows]
    simp [hnone, SelectorsAgree]

end Sys2Proof

namespace Sys2Proof.Machine

/-! ### The encoding obligations that the laws settle at once -/

/-- Settles O39: it is the law `decode_encode`. -/
theorem decodeOfEncode : Obligations.DecodeOfEncode := fun _ => decode_encode

/-- Settles O24: the five bits alone decode to the reserved long row. -/
theorem reservedLongIsIllegal : Obligations.ReservedLongIsIllegal := fun _ h => decodeRecord_of_long (decode_long h)

/-- Settles O9: the row is on the illegal path with length 2, in the state as it is. -/
theorem reservedLongRowCompletes : Obligations.ReservedLongRowCompletes := fun s =>
  ⟨emitIllegal_continuePast 2#3 s, emitIllegal_trapOrRefuse 2#3 s⟩

/-- Settles O38, by running the decoder on the six words. -/
theorem workedExampleWords : Obligations.WorkedExampleWords := by
  refine ⟨?_, ?_, ?_, ?_, ?_, ?_⟩ <;> decide

/-! ### The decoder and the opcode table (R105) -/

/-- What a word decodes to, the word matches the row of. -/
theorem covers_of_decode {w : Word} {j : Instr} (h : decode w = .instr j) : j.row.covers w = true := by
  by_cases hq : quadrant w = 0b11#2
  · by_cases hp : lengthPrefix w = 0b11111#5
    · obtain rfl := Decoded.instr.inj (h.symm.trans (decode_long hp))
      have hb := bitsRead_long hp
      rw [bitsRead, if_neg (not_not.2 hq), if_pos hp] at hb
      exact covers_iff.2 hb
    · rcases opcode7_mem_majors hq hp with hm | hm
      · rw [← decode_encodesTo hm j h]
        exact row_covers_encode j
      · have hr := row_decode_delegatedMajor hm
        rw [h] at hr
        rw [Option.some.inj hr]
        exact covers_iff.2 (and_majorMask w)
  · obtain rfl := Decoded.instr.inj (h.symm.trans (decode_compressed hq))
    rw [row_decodeCompressed hq]
    exact covers_iff.2 (and_pairMask w)

/-- Settles O41: a word matches the row of what it decodes to, and decodes to the row it matches. -/
theorem decoderAgreesWithOpcodeTable : Obligations.DecoderAgreesWithOpcodeTable := by
  refine fun w => ⟨fun i => ⟨fun h => ?_, ?_⟩, fun hnone => ?_⟩
  · have hr := row_decode_of_covers h
    cases hd : decode w with
    | illegal c => rw [hd] at hr; cases hr
    | instr j => rw [hd] at hr; exact ⟨j, rfl, Option.some.inj hr⟩
  · rintro ⟨j, hd, hr⟩
    rw [← hr]
    exact covers_of_decode hd
  · cases hd : decode w with
    | illegal c => exact decodeRecord_of_illegal hd
    | instr j => cases (hnone j).symm.trans (covers_of_decode hd)

/-! ### Illegal and unimplemented records (R102, R95, R145) -/

/-- A compressed word's pair is one of the four decoded ones (arms 2, 6, 18 and 22), and its record is an FLD's or an
FSD's, or the pair is delegated. -/
theorem exec_decodeCompressed {w : Word} (hq : quadrant w ≠ 0b11#2) :
    ((quadrant w, cfunct3 w) ∈ decodedPairs ∧
      ∃ r, (∀ s, exec (decodeCompressed w) s = emit r s) ∧ r.opcode ∈ [Opcode.fld, .fsd]) ∨
    ((quadrant w, cfunct3 w) ∉ decodedPairs ∧ ∀ s, exec (decodeCompressed w) s = emitUnimplemented 2#3 s) := by
  unfold decodeCompressed
  split
  case h_2 hq h3 | h_18 hq h3 =>
    rw [hq, h3]
    exact .inl ⟨by decide, _, fun _ => rfl, .head _⟩
  case h_6 hq h3 | h_22 hq h3 =>
    rw [hq, h3]
    exact .inl ⟨by decide, _, fun _ => rfl, .tail _ (.head _)⟩
  case h_25 hq' => exact absurd hq' hq
  all_goals
    next hq h3 =>
    rw [hq, h3]
    exact .inr ⟨by decide, fun _ => rfl⟩

/-- The record of a compressed word. -/
theorem decodeRecord_compressed {w : Word} (hq : quadrant w ≠ 0b11#2) :
    ((quadrant w, cfunct3 w) ∈ decodedPairs ∧ (decodeRecord w).opcode ∈ [Opcode.fld, .fsd]) ∨
    ((quadrant w, cfunct3 w) ∉ decodedPairs ∧ decodeRecord w = unimpRecord 2#3) := by
  have hd := decode_compressed hq
  rcases exec_decodeCompressed hq with ⟨hp, r, he, hr⟩ | ⟨hp, he⟩
  · rw [decodeRecord_of_emit hd he]
    exact .inl ⟨hp, hr⟩
  · exact .inr ⟨hp, decodeRecord_of_unimplemented hd he⟩

/-- An illegal record is that of the reserved long row or of a word that matches no row. -/
theorem decode_of_opcode_illegal {w : Word} (h : (decodeRecord w).opcode = .illegal) :
    decode w = .instr .illegalLong ∨ (decode w).Rejected := by
  cases hd : decode w with
  | illegal c => exact .inr (rejected_illegal c)
  | instr i =>
    rcases exec_cases i with ⟨r, hr, -, he⟩ | ⟨rfl, -⟩ | ⟨-, he⟩
    · rw [decodeRecord_of_emit hd he] at h
      have hop := hr.2
      rw [h] at hop
      cases hop
    · exact .inl rfl
    · rw [decodeRecord_of_unimplemented hd he] at h
      cases h

/-- An unimplemented record is that of a row on the unimplemented path. -/
theorem exec_of_opcode_unimplemented {w : Word} (h : (decodeRecord w).opcode = .unimplemented) :
    ∃ i, decode w = .instr i ∧ ∃ n, ∀ s, exec i s = emitUnimplemented n s := by
  cases hd : decode w with
  | illegal c => rw [decodeRecord_of_illegal hd] at h; cases h
  | instr i =>
    rcases exec_cases i with ⟨r, hr, -, he⟩ | ⟨rfl, -⟩ | ⟨-, he⟩
    · rw [decodeRecord_of_emit hd he] at h
      have hop := hr.2
      rw [h] at hop
      cases hop
    · rw [decodeRecord_of_long hd] at h
      cases h
    · exact ⟨i, rfl, _, he⟩

/-- The words of a decoded major opcode that match no row (R102). -/
abbrev majorIllegal (w : Word) : Prop :=
  (opcode7 w ∈ [0b0000111#7, 0b0100111#7] ∧ funct3 w ∉ [0b010#3, 0b011#3]) ∨
  (opcode7 w = 0b0101111#7 ∧ amoIllegal w) ∨
  (opcode7 w ∈ [0b1000011#7, 0b1000111#7, 0b1001011#7, 0b1001111#7] ∧ fmt2 w ∈ [0b10#2, 0b11#2]) ∨
  (opcode7 w = 0b1010011#7 ∧ ¬ opFpListed w)

theorem decode_rejected_of_decodedMajor {w : Word} (hm : opcode7 w ∈ decodedMajors) :
    (decode w).Rejected ↔ majorIllegal w := by
  simp only [decodedMajors, List.mem_cons, List.not_mem_nil, or_false] at hm
  rcases hm with h | h | h | h | h | h | h | h
  · rw [decode_loadFp h, decodeLoadFp_rejected]; simp [majorIllegal, h]
  · rw [decode_storeFp h, decodeStoreFp_rejected]; simp [majorIllegal, h]
  · rw [decode_amo h, decodeAmo_rejected]; simp [majorIllegal, h]
  · rw [decode_madd h, decodeFma_rejected]; simp [majorIllegal, h]
  · rw [decode_msub h, decodeFma_rejected]; simp [majorIllegal, h]
  · rw [decode_nmsub h, decodeFma_rejected]; simp [majorIllegal, h]
  · rw [decode_nmadd h, decodeFma_rejected]; simp [majorIllegal, h]
  · rw [decode_opFp h, decodeOpFp_rejected]; simp [majorIllegal, h]

/-- The words that are rejected by name are those of R102's last four cases. -/
theorem decode_rejected (w : Word) : (decode w).Rejected ↔ majorIllegal w := by
  constructor
  · intro h
    refine (decode_rejected_of_decodedMajor ?_).1 h
    by_contra hm
    by_cases hq : quadrant w = 0b11#2
    · by_cases hp : lengthPrefix w = 0b11111#5
      · rw [decode_long hp] at h
        exact not_rejected_instr _ h
      · obtain ⟨i, hi, -⟩ := decode_delegatedMajor ((opcode7_mem_majors hq hp).resolve_left hm)
        rw [hi] at h
        exact not_rejected_instr _ h
    · rw [decode_compressed hq] at h
      exact not_rejected_instr _ h
  · intro h
    refine (decode_rejected_of_decodedMajor ?_).2 h
    rcases h with ⟨h, -⟩ | ⟨h, -⟩ | ⟨h, -⟩ | ⟨h, -⟩
    · exact (by decide : ∀ op ∈ [0b0000111#7, 0b0100111#7], op ∈ decodedMajors) _ h
    · rw [h]; decide
    · exact (by decide : ∀ op ∈ [0b1000011#7, 0b1000111#7, 0b1001011#7, 0b1001111#7], op ∈ decodedMajors) _ h
    · rw [h]; decide

/-- The record of a word in one of R102's cases. -/
theorem decodeRecord_of_illegalWith {w : Word} {n : BitVec 3} (h : illegalWith w n) :
    decodeRecord w = illegalRecord n := by
  rcases h with ⟨hp, rfl⟩ | ⟨rfl, h⟩
  · exact decodeRecord_of_long (decode_long hp)
  · obtain ⟨c, hc⟩ := (decode_rejected w).2 h
    exact decodeRecord_of_illegal hc

/-- Settles O22: an illegal record is that of the reserved long row, whose words are the first case, or of a word
that is rejected by name, whose words are the others. -/
theorem illegalExactlyInFiveCases : Obligations.IllegalExactlyInFiveCases := by
  intro w
  refine ⟨⟨fun h => ?_, fun ⟨n, h⟩ => ?_⟩, fun _ => decodeRecord_of_illegalWith, fun hq => ?_⟩
  · rcases decode_of_opcode_illegal h with hd | hd
    · exact ⟨2#3, .inl ⟨lengthPrefix_of_row (covers_iff.1 (covers_of_decode hd)) rfl, rfl⟩⟩
    · exact ⟨4#3, .inr ⟨rfl, (decode_rejected w).1 hd⟩⟩
  · rw [decodeRecord_of_illegalWith h]
    rfl
  · rcases decodeRecord_compressed hq with ⟨-, h⟩ | ⟨-, h⟩
    · exact List.mem_append_left [Opcode.unimplemented] h
    · rw [h]
      decide

/-- A word whose instruction is on the unimplemented path is of no decoded major opcode. -/
theorem opcode7_of_exec_unimplemented {i : Instr} {n : BitVec 3} (h : ∀ s, exec i s = emitUnimplemented n s) :
    opcode7 (encode i) ∉ decodedMajors := by
  have h := h { State.reset with policy := .trapOrRefuse }
  cases i
  case unimpCAddi4spn | unimpCLw | unimpCLd | unimpCReserved | unimpCSw | unimpCSd | unimpCNopAddi | unimpCAddiw
      | unimpCLi | unimpCLuiAddi16sp | unimpCMiscAlu | unimpCJ | unimpCBeqz | unimpCBnez | unimpCSlli | unimpCLwsp
      | unimpCLdsp | unimpCJrMvAdd | unimpCSwsp | unimpCSdsp | unimpLoad | unimpCustom0 | unimpMiscMem | unimpOpImm
      | unimpAuipc | unimpOpImm32 | unimpStore | unimpCustom1 | unimpOp | unimpLui | unimpOp32 | unimpOpV
      | unimpCustom2 | unimpBranch | unimpJalr | unimpReserved | unimpJal | unimpSystem | unimpOpP | unimpCustom3 =>
    decide
  all_goals cases h

/-- The record of a delegated word (R95, R145). -/
theorem decodeRecord_of_delegatedWith {w : Word} {n : BitVec 3} (h : delegatedWith w n) :
    decodeRecord w = unimpRecord n := by
  rcases h with ⟨hq, hp, rfl⟩ | ⟨hm, rfl⟩
  · exact ((decodeRecord_compressed hq).resolve_left fun h => hp h.1).2
  · obtain ⟨i, hi, -, he⟩ := decode_delegatedMajor hm
    exact decodeRecord_of_unimplemented hi he

/-- Settles O23: a row on the unimplemented path is a delegated pair's or a delegated major opcode's. -/
theorem unimplementedExactlyWhenDelegated : Obligations.UnimplementedExactlyWhenDelegated := by
  intro w
  refine ⟨⟨fun h => ?_, fun ⟨n, h⟩ => ?_⟩, fun _ => decodeRecord_of_delegatedWith⟩
  · by_cases hq : quadrant w = 0b11#2
    · obtain ⟨i, hd, n, he⟩ := exec_of_opcode_unimplemented h
      have hp : lengthPrefix w ≠ 0b11111#5 := fun hp => by
        rw [decodeRecord_of_long (decode_long hp)] at h
        cases h
      have hm : opcode7 w ∉ decodedMajors := fun hm =>
        opcode7_of_exec_unimplemented he (decode_encodesTo hm i hd ▸ hm)
      exact ⟨4#3, .inr ⟨(opcode7_mem_majors hq hp).resolve_left hm, rfl⟩⟩
    · rcases decodeRecord_compressed hq with ⟨-, hop⟩ | ⟨hp, -⟩
      · rw [h] at hop
        exact absurd hop (by decide)
      · exact ⟨2#3, .inl ⟨hq, hp, rfl⟩⟩
  · rw [decodeRecord_of_delegatedWith h]
    rfl

/-! ### LOAD-FP and STORE-FP by `funct3` (R98) -/

theorem opcode_decodeRecord_loadFp {w : Word} (ho : opcode7 w = 0b0000111#7) : (decodeRecord w).opcode =
    if funct3 w = 0b010#3 then .flw else if funct3 w = 0b011#3 then .fld else .illegal := by
  have hd := decode_loadFp ho
  unfold decodeLoadFp at hd
  split at hd
  case h_1 h3 | h_2 h3 => rw [decodeRecord_of_emit hd fun _ => rfl, h3]; rfl
  case h_3 h2 h3 => rw [decodeRecord_of_illegal hd, if_neg h2, if_neg h3]; rfl

theorem opcode_decodeRecord_storeFp {w : Word} (ho : opcode7 w = 0b0100111#7) : (decodeRecord w).opcode =
    if funct3 w = 0b010#3 then .fsw else if funct3 w = 0b011#3 then .fsd else .illegal := by
  have hd := decode_storeFp ho
  unfold decodeStoreFp at hd
  split at hd
  case h_1 h3 | h_2 h3 => rw [decodeRecord_of_emit hd fun _ => rfl, h3]; rfl
  case h_3 h2 h3 => rw [decodeRecord_of_illegal hd, if_neg h2, if_neg h3]; rfl

/-- Settles O25: the two demultiplexers by `funct3`, and the second of R102's cases. -/
theorem fpLoadStoreWidthMap : Obligations.FpLoadStoreWidthMap := fun _ =>
  ⟨opcode_decodeRecord_loadFp, opcode_decodeRecord_storeFp, fun ho h3 =>
    decodeRecord_of_illegalWith (.inr ⟨rfl, .inl ⟨ho, h3⟩⟩)⟩

/-! ### What `imm` carries (R85 to R90) -/

/-- The tags with a memory access: the instruction tags whose `imm` the block defines (R40). -/
def accessesMemory (op : Opcode) : Bool := op.isLoad || op.isStore || op.isLr || op.isScOrAmo

/-- The `imm` of a tag with a memory access: the displacement of the format, and for an atomic the ordering bits. -/
def carriedImm (w : Word) (op : Opcode) : Imm :=
  if quadrant w = 0b00#2 then immCL w
  else if quadrant w = 0b10#2 then (if op.isLoad then immCI w else immCSS w)
  else if op.isLoad then immI w
  else if op.isStore then immS w
  else orderingImm (fmt2 w)

/-- By format, each immediate is read back from the encoding. -/
theorem imm_of_decode {w : Word} {i : Instr} (hd : decode w = .instr i)
    (hop : accessesMemory (decodeRecord w).opcode = true) :
    (decodeRecord w).imm = carriedImm (encode i) (decodeRecord w).opcode := by
  have hwf := decode_wf hd
  cases i
  case cFld | cFsd =>
    simp only [Instr.wf, Bool.and_eq_true] at hwf
    rw [decodeRecord_of_emit hd fun _ => rfl, carriedImm, encode, quadrant_encCL, immCL_encCL _ _ _ _ hwf.2]
    rfl
  case cFldsp =>
    rw [decodeRecord_of_emit hd fun _ => rfl, carriedImm, encode, quadrant_encCI, immCI_encCI _ _ _ hwf]
    rfl
  case cFsdsp =>
    rw [decodeRecord_of_emit hd fun _ => rfl, carriedImm, encode, quadrant_encCSS, immCSS_encCSS _ _ _ hwf]
    rfl
  case flw | fld =>
    rw [decodeRecord_of_emit hd fun _ => rfl, carriedImm, encode, quadrant_encI, immI_encI _ _ _ _ _ hwf]
    rfl
  case fsw | fsd =>
    rw [decodeRecord_of_emit hd fun _ => rfl, carriedImm, encode, quadrant_encS, immS_encS _ _ _ _ _ hwf]
    rfl
  case lrW | scW | amoswapW | amoaddW | amoxorW | amoandW | amoorW | amominW | amomaxW | amominuW | amomaxuW
      | lrD | scD | amoswapD | amoaddD | amoxorD | amoandD | amoorD | amominD | amomaxD | amominuD | amomaxuD =>
    rw [decodeRecord_of_emit hd fun _ => rfl, carriedImm, encode, quadrant_encR, fmt2_encR, amoFunct7_aqrl]
    rfl
  all_goals
    rw [decodeRecord, runWord_instr w _ _ hd] at hop
    cases hop

/-- The `imm` of a word, of which the block reads the bits it may. -/
theorem imm_decodeRecord {w : Word} (hop : accessesMemory (decodeRecord w).opcode = true) :
    (decodeRecord w).imm = carriedImm (bitsRead w) (decodeRecord w).opcode := by
  cases hd : decode w with
  | illegal c => rw [decodeRecord_of_illegal hd] at hop; cases hop
  | instr i =>
    rcases decode_instr_cases hd with he | rfl | ⟨n, he⟩
    · rw [← he, imm_of_decode hd hop]
    · rw [decodeRecord_of_long hd] at hop; cases hop
    · rw [decodeRecord_of_unimplemented hd he] at hop; cases hop

theorem quadrant_of_length_four {w : Word} (h : (decodeRecord w).length = 4#3) : quadrant w = 0b11#2 := by
  by_contra hq
  cases h.symm.trans ((lengthLaw w).1 hq)

theorem isLoad_of_isStore {op : Opcode} (h : op.isStore = true) : op.isLoad = false := by
  cases op <;> cases h <;> rfl

/-- The groups of tags are disjoint. -/
theorem isLoad_isStore_of_atomic {op : Opcode} (h : (op.isLr || op.isScOrAmo) = true) :
    op.isLoad = false ∧ op.isStore = false := by
  cases op <;> cases h <;> exact ⟨rfl, rfl⟩

theorem accessesMemory_eq (op : Opcode) :
    accessesMemory op = ((op.isLoad || op.isStore) || (op.isLr || op.isScOrAmo)) := Bool.or_assoc ..

section Imm

variable {w : Word}

theorem imm_formatI (h4 : (decodeRecord w).length = 4#3) (hop : (decodeRecord w).opcode.isLoad = true) :
    (decodeRecord w).imm = immI w := by
  rw [imm_decodeRecord (by rw [accessesMemory, hop]; rfl), bitsRead_of_length_four h4, carriedImm,
    quadrant_of_length_four h4, hop]
  rfl

theorem imm_formatS (h4 : (decodeRecord w).length = 4#3) (hop : (decodeRecord w).opcode.isStore = true) :
    (decodeRecord w).imm = immS w := by
  rw [imm_decodeRecord (by rw [accessesMemory_eq, hop, Bool.or_true]; rfl), bitsRead_of_length_four h4, carriedImm,
    quadrant_of_length_four h4, isLoad_of_isStore hop, hop]
  rfl

theorem imm_formatCL (hq : quadrant w = 0b00#2)
    (hop : (decodeRecord w).opcode.isLoad = true ∨ (decodeRecord w).opcode.isStore = true) :
    (decodeRecord w).imm = immCL w := by
  have hl : bitsRead w = w &&& 0x0000FFFF#32 := bitsRead_compressed (by rw [hq]; decide)
  have himm : immCL (w &&& 0x0000FFFF#32) = immCL w := extract_and_mask w (by decide)
  rw [imm_decodeRecord (by rw [accessesMemory_eq, Bool.or_eq_true_iff.2 hop]; rfl), hl, carriedImm, quadrant_lowHalf,
    hq, himm]
  rfl

theorem imm_formatCI (hq : quadrant w = 0b10#2) (hop : (decodeRecord w).opcode.isLoad = true) :
    (decodeRecord w).imm = immCI w := by
  have hl : bitsRead w = w &&& 0x0000FFFF#32 := bitsRead_compressed (by rw [hq]; decide)
  have himm : immCI (w &&& 0x0000FFFF#32) = immCI w := extract_and_mask w (by decide)
  rw [imm_decodeRecord (by rw [accessesMemory, hop]; rfl), hl, carriedImm, quadrant_lowHalf, hq, hop, himm]
  rfl

theorem imm_formatCSS (hq : quadrant w = 0b10#2) (hop : (decodeRecord w).opcode.isStore = true) :
    (decodeRecord w).imm = immCSS w := by
  have hl : bitsRead w = w &&& 0x0000FFFF#32 := bitsRead_compressed (by rw [hq]; decide)
  have himm : immCSS (w &&& 0x0000FFFF#32) = immCSS w := extract_and_mask w (by decide)
  rw [imm_decodeRecord (by rw [accessesMemory_eq, hop, Bool.or_true]; rfl), hl, carriedImm, quadrant_lowHalf, hq,
    isLoad_of_isStore hop, himm]
  rfl

/-- An atomic is a standard word. -/
theorem length_of_atomic (hop : ((decodeRecord w).opcode.isLr || (decodeRecord w).opcode.isScOrAmo) = true) :
    (decodeRecord w).length = 4#3 := by
  refine (lengthLaw w).2.2 ?_ fun hp => ?_
  · by_contra hq
    rcases decodeRecord_compressed hq with ⟨-, h⟩ | ⟨-, h⟩
    · exact absurd hop ((by decide : ∀ op ∈ [Opcode.fld, .fsd], ¬ (op.isLr || op.isScOrAmo) = true) _ h)
    · rw [h] at hop; cases hop
  · rw [decodeRecord_of_long (decode_long hp)] at hop; cases hop

theorem imm_atomic (hop : ((decodeRecord w).opcode.isLr || (decodeRecord w).opcode.isScOrAmo) = true) :
    (decodeRecord w).imm = orderingImm (fmt2 w) := by
  have h4 := length_of_atomic hop
  obtain ⟨hl, hs⟩ := isLoad_isStore_of_atomic hop
  rw [imm_decodeRecord (by rw [accessesMemory_eq, hop, Bool.or_true]), bitsRead_of_length_four h4, carriedImm,
    quadrant_of_length_four h4, hl, hs]
  rfl

end Imm

/-- Settles O32: the two ordering bits, zero-extended. -/
theorem orderingBitsAreCarried : Obligations.OrderingBitsAreCarried := by
  intro w hop
  have himm := imm_atomic (Bool.or_eq_true_iff.2 hop)
  rw [Record.aq, Record.rl, himm]
  refine ⟨rfl, ?_, ?_, ?_⟩
  · simp [orderingImm, fmt2]
  · simp [orderingImm, fmt2]
  · rw [orderingImm, BitVec.toNat_setWidth]
    have := (fmt2 w).isLt
    omega

/-! Each immediate as the concatenation that its rule gives -/

theorem immI_eq_signExtend (w : Word) : immI w = (w.extractLsb 31 20).signExtend 64 :=
  congrArg (BitVec.signExtend 64) ((BitVec.append_zero_width ..).trans (BitVec.append_zero_width ..))

theorem immS_eq_signExtend (w : Word) : immS w = (w.extractLsb 31 25 ++ w.extractLsb 11 7).signExtend 64 :=
  congrArg (BitVec.signExtend 64) ((BitVec.append_zero_width ..).trans
    (congrArg (w.extractLsb' 25 7 ++ ·) (BitVec.append_zero_width (w.extractLsb' 7 5) 0#0)))

theorem immCL_eq_setWidth (w : Word) : immCL w = (w.extractLsb 6 5 ++ w.extractLsb 12 10 ++ 0#3).setWidth 64 :=
  congrArg (fun low : BitVec 3 => (w.extractLsb' 5 2 ++ low ++ 0#3).setWidth 64) (BitVec.append_zero_width ..)

theorem immCSS_eq_setWidth (w : Word) : immCSS w = (w.extractLsb 9 7 ++ w.extractLsb 12 10 ++ 0#3).setWidth 64 :=
  congrArg (fun low : BitVec 3 => (w.extractLsb' 7 3 ++ low ++ 0#3).setWidth 64) (BitVec.append_zero_width ..)

theorem immCI_eq_setWidth (w : Word) :
    immCI w = (w.extractLsb 4 2 ++ w.extractLsb 12 12 ++ w.extractLsb 6 5 ++ 0#3).setWidth 64 := by
  apply BitVec.eq_of_toNat_eq
  rw [toNat_immCI]
  change _ = ((w.extractLsb' 2 3 ++ w.extractLsb' 12 1 ++ w.extractLsb' 5 2 ++ 0#3).setWidth 64).toNat
  simp only [BitVec.toNat_setWidth, toNat_append_add, toNat_slice, BitVec.toNat_ofNat, Nat.reducePow]
  omega

/-- The range of a signed displacement (R85, R86). -/
theorem range_of_wfSigned12 {imm : Imm} (h : wfSigned12 imm = true) : -2048 ≤ imm.toInt ∧ imm.toInt ≤ 2047 := by
  simpa only [wfSigned12, Bool.and_eq_true, decide_eq_true_eq] using h

theorem range_of_wfScaled5 {imm : Imm} (h : wfScaled5 imm = true) : imm.toNat ≤ 248 ∧ 8 ∣ imm.toNat := by
  simpa only [wfScaled5, Bool.and_eq_true, decide_eq_true_eq, Nat.dvd_iff_mod_eq_zero] using h

theorem range_of_wfScaled6 {imm : Imm} (h : wfScaled6 imm = true) : imm.toNat ≤ 504 ∧ 8 ∣ imm.toNat := by
  simpa only [wfScaled6, Bool.and_eq_true, decide_eq_true_eq, Nat.dvd_iff_mod_eq_zero] using h

/-- Settles O34: the `imm` of each format is the extraction of its rule, whose range the encoder's conditions state. -/
theorem immediatesAndTheirRanges : Obligations.ImmediatesAndTheirRanges := by
  rintro w _ rfl
  refine ⟨fun hop h4 => ?_, fun hop h4 => ?_, fun hop hq => ?_, fun hop hq => ?_, fun hop hq => ?_⟩
  · rw [imm_formatI h4 hop]
    exact ⟨immI_eq_signExtend w, rfl, range_of_wfSigned12 (wfSigned12_immI w)⟩
  · rw [imm_formatS h4 hop]
    exact ⟨immS_eq_signExtend w, rfl, range_of_wfSigned12 (wfSigned12_immS w)⟩
  · rw [imm_formatCL hq hop]
    exact ⟨immCL_eq_setWidth w, rfl, range_of_wfScaled5 (wfScaled5_immCL w)⟩
  · rw [imm_formatCI hq hop]
    exact ⟨immCI_eq_setWidth w, rfl, range_of_wfScaled6 (wfScaled6_immCI w)⟩
  · rw [imm_formatCSS hq hop]
    exact ⟨immCSS_eq_setWidth w, rfl, range_of_wfScaled6 (wfScaled6_immCSS w)⟩

end Sys2Proof.Machine

namespace Sys2Proof

/-! ### The extractor (R120 to R122) -/

/-- The first descriptor's bits stand above those of the rest (R120). -/
theorem toNat_selectBits_cons (w : Word) (d : BitRange) (ds : List BitRange) :
    (selectBits w (d :: ds)).toNat =
      (w.toNat / 2 ^ d.lo % 2 ^ (d.hi - d.lo + 1)) * 2 ^ selectWidth ds + (selectBits w ds).toNat := by
  calc (selectBits w (d :: ds)).toNat
    _ = (w.extractLsb' d.lo d.width ++ selectBits w ds).toNat := rfl
    _ = _ := by rw [toNat_append_add, toNat_slice, BitRange.width]

/-- Without the marker, nothing is lost where the selected bits and the scale's zeros fit into 64 bits. -/
theorem toNat_extract_zext (w : Word) {ds : List BitRange} {scale : Nat} (hk : selectWidth ds + scale ≤ 64) :
    (extract w ds .zext scale).toNat = (selectBits w ds).toNat * 2 ^ scale := by
  calc (extract w ds .zext scale).toNat
    _ = (selectBits w ds ++ 0#scale).toNat := BitVec.toNat_setWidth_of_le hk
    _ = (selectBits w ds).toNat * 2 ^ scale := by rw [toNat_append_add, BitVec.toNat_zero, Nat.add_zero]

/-- With the marker, the sign is that of the most significant selected bit (R121). -/
theorem toInt_extract_sext (w : Word) {ds : List BitRange} {scale : Nat} (hk : selectWidth ds + scale ≤ 64) :
    (extract w ds .sext scale).toInt = (selectBits w ds).toInt * 2 ^ scale := by
  calc (extract w ds .sext scale).toInt
    _ = (selectBits w ds ++ 0#scale).toInt := BitVec.toInt_signExtend_of_le hk
    _ = (selectBits w ds).toInt * 2 ^ scale := by rw [BitVec.toInt_append_zero, Int.mul_comm]

end Sys2Proof

namespace Sys2Proof.Machine

/-- Settles O35: an append is a multiplication by a power of two, and an extension that does not shorten keeps the
value. -/
theorem extractorMeetsItsContract : Obligations.ExtractorMeetsItsContract := fun w d ds _ _ _ hk =>
  ⟨toNat_selectBits_cons w d ds, toNat_extract_zext w hk, toInt_extract_sext w hk⟩

/-- Settles O43: no arm of the block faults, its rows have the two lengths, and a caller that continues is always
answered. -/
theorem decodeIsTotal : Obligations.DecodeIsTotal := fun w s =>
  ⟨runWord_ne_fault w s, decodeRecord_length w, fun hp => ⟨_, runWord_continuePast w hp, rfl⟩⟩

end Sys2Proof.Machine

namespace Sys2Proof.Machine

/-! ### The records of the compressed rows (R141 to R144) -/

/-- A word that matches the row of a compressed pair goes to the arm of the row's own pair (R97, R125), so what that arm
drives answers the row. -/
theorem rowAnswers_of_pair {q : BitVec 2} {f3 : BitVec 3} {op : Opcode} {fields : Word → Record → Prop}
    (hc : q ≠ 0b11#2)
    (harm : ∀ w, quadrant w = q → cfunct3 w = f3 → ∃ r, (∀ s, exec (decodeCompressed w) s = emit r s) ∧
      r.opcode = op ∧ r.length = 2#3 ∧ fields w r) :
    RowAnswers ⟨0x0000E003#32, encPair f3 q⟩ op 2#3 fields := fun w (h : w &&& 0x0000E003#32 = encPair f3 q) => by
  have hq : quadrant w = q := (quadrant_of_row h rfl).trans (quadrant_encPair f3 q)
  have h3 : cfunct3 w = f3 := (cfunct3_of_row h rfl).trans (cfunct3_encPair f3 q)
  obtain ⟨r, he, hr⟩ := harm w hq h3
  exact ⟨r, answers_of_decode (decode_compressed (hq ▸ hc)) he, hr⟩

/-- Settles O10: the arm of each of the four pairs drives the fields that its rule takes from the word. -/
theorem compressedFpRecords : Obligations.CompressedFpRecords := by
  refine ⟨rowAnswers_of_pair (q := 0b00#2) (f3 := 0b001#3) (by decide) fun w hq h3 => ?_,
    rowAnswers_of_pair (q := 0b00#2) (f3 := 0b101#3) (by decide) fun w hq h3 => ?_,
    rowAnswers_of_pair (q := 0b10#2) (f3 := 0b001#3) (by decide) fun w hq h3 => ?_,
    rowAnswers_of_pair (q := 0b10#2) (f3 := 0b101#3) (by decide) fun w hq h3 => ?_⟩ <;>
    rw [decodeCompressed, hq, h3]
  · exact ⟨_, fun _ => rfl, rfl, rfl, rfl, rfl, immCL_eq_setWidth w⟩
  · exact ⟨_, fun _ => rfl, rfl, rfl, rfl, rfl, immCL_eq_setWidth w⟩
  · exact ⟨_, fun _ => rfl, rfl, rfl, rfl, rfl, immCI_eq_setWidth w⟩
  · exact ⟨_, fun _ => rfl, rfl, rfl, rfl, rfl, immCSS_eq_setWidth w⟩

end Sys2Proof.Machine

namespace Sys2Proof

/-! ### The loads and stores, by `funct3` (R160, R163) -/

theorem decodeLoadFp_flw {w : Word} (h : funct3 w = 0b010#3) :
    decodeLoadFp w = .instr (.flw (fieldRd w) (fieldRs1 w) (immI w)) := by rw [decodeLoadFp, h]; rfl

theorem decodeLoadFp_fld {w : Word} (h : funct3 w = 0b011#3) :
    decodeLoadFp w = .instr (.fld (fieldRd w) (fieldRs1 w) (immI w)) := by rw [decodeLoadFp, h]; rfl

theorem decodeStoreFp_fsw {w : Word} (h : funct3 w = 0b010#3) :
    decodeStoreFp w = .instr (.fsw (fieldRs1 w) (fieldRs2 w) (immS w)) := by rw [decodeStoreFp, h]; rfl

theorem decodeStoreFp_fsd {w : Word} (h : funct3 w = 0b011#3) :
    decodeStoreFp w = .instr (.fsd (fieldRs1 w) (fieldRs2 w) (immS w)) := by rw [decodeStoreFp, h]; rfl

end Sys2Proof

namespace Sys2Proof.Machine

/-! ### The records of the loads and stores (R161, R162, R164, R165) -/

/-- A word that matches a row of major opcode and `funct3` has the row's own two fields (R98), so what the instruction
of such a word drives answers the row. -/
theorem rowAnswers_of_major_funct3 {v : Word} {op : Opcode} {n : BitVec 3} {fields : Word → Record → Prop}
    (harm : ∀ w, opcode7 w = opcode7 v → funct3 w = funct3 v → ∃ i r, decode w = .instr i ∧
      (∀ s, exec i s = emit r s) ∧ r.opcode = op ∧ r.length = n ∧ fields w r) :
    RowAnswers ⟨0x0000707F#32, v⟩ op n fields := fun w (h : w &&& 0x0000707F#32 = v) => by
  obtain ⟨i, r, hd, he, hr⟩ := harm w (opcode7_of_row h rfl) (funct3_of_row h rfl)
  exact ⟨r, answers_of_decode hd he, hr⟩

/-- Settles O11: the two fields select the instruction, which drives the fields that its rule takes from the word. -/
theorem fpLoadStoreRecords : Obligations.FpLoadStoreRecords := by
  refine ⟨List.forall_mem_cons.2 ⟨?flw, List.forall_mem_singleton.2 ?fld⟩,
      List.forall_mem_cons.2 ⟨?fsw, List.forall_mem_singleton.2 ?fsd⟩⟩ <;>
    refine rowAnswers_of_major_funct3 fun w ho h3 => ?_
  case flw =>
    exact ⟨_, _, (decode_loadFp ho).trans (decodeLoadFp_flw h3), fun _ => rfl, rfl, rfl, rfl, rfl,
      immI_eq_signExtend w⟩
  case fld =>
    exact ⟨_, _, (decode_loadFp ho).trans (decodeLoadFp_fld h3), fun _ => rfl, rfl, rfl, rfl, rfl,
      immI_eq_signExtend w⟩
  case fsw =>
    exact ⟨_, _, (decode_storeFp ho).trans (decodeStoreFp_fsw h3), fun _ => rfl, rfl, rfl, rfl, rfl,
      immS_eq_signExtend w⟩
  case fsd =>
    exact ⟨_, _, (decode_storeFp ho).trans (decodeStoreFp_fsd h3), fun _ => rfl, rfl, rfl, rfl, rfl,
      immS_eq_signExtend w⟩

end Sys2Proof.Machine

namespace Sys2Proof.Machine

/-! ### The tag of an atomic (R99) -/

/-- The tag of an atomic, by `funct3` and `funct5` (R99). -/
def amoTag (f3 : BitVec 3) (f5 : BitVec 5) : Option Opcode :=
  match f3, f5 with
  | 0b010#3, 0b00010#5 => some .lr_w
  | 0b010#3, 0b00011#5 => some .sc_w
  | 0b010#3, 0b00001#5 => some .amoswap_w
  | 0b010#3, 0b00000#5 => some .amoadd_w
  | 0b010#3, 0b00100#5 => some .amoxor_w
  | 0b010#3, 0b01100#5 => some .amoand_w
  | 0b010#3, 0b01000#5 => some .amoor_w
  | 0b010#3, 0b10000#5 => some .amomin_w
  | 0b010#3, 0b10100#5 => some .amomax_w
  | 0b010#3, 0b11000#5 => some .amominu_w
  | 0b010#3, 0b11100#5 => some .amomaxu_w
  | 0b011#3, 0b00010#5 => some .lr_d
  | 0b011#3, 0b00011#5 => some .sc_d
  | 0b011#3, 0b00001#5 => some .amoswap_d
  | 0b011#3, 0b00000#5 => some .amoadd_d
  | 0b011#3, 0b00100#5 => some .amoxor_d
  | 0b011#3, 0b01100#5 => some .amoand_d
  | 0b011#3, 0b01000#5 => some .amoor_d
  | 0b011#3, 0b10000#5 => some .amomin_d
  | 0b011#3, 0b10100#5 => some .amomax_d
  | 0b011#3, 0b11000#5 => some .amominu_d
  | 0b011#3, 0b11100#5 => some .amomaxu_d
  | _, _ => none

theorem isLr_or_isScOrAmo_of_amoTag {f3 : BitVec 3} {f5 : BitVec 5} {op : Opcode} (h : amoTag f3 f5 = some op) :
    op.isLr = true ∨ op.isScOrAmo = true := by
  unfold amoTag at h
  split at h <;> cases h <;> decide

/-- The instruction of an AMO word drives the tag of its width and operation, and the word's fields; LR's `rs2` is 0 in
the record and in the word. -/
theorem exec_of_decodeAmo {w : Word} {i : Instr} (h : decodeAmo w = .instr i) :
    ∃ op, amoTag (funct3 w) (funct5 w) = some op ∧ ∀ s, exec i s =
      emit (amoRecord (encode i) op (fieldRd w) (fieldRs1 w) (fieldRs2 w) (fmt2 w)) s := by
  rw [decodeAmo, decodeAmoW, decodeAmoD] at h
  split at h
  case h_3 => cases h
  case h_1 h3 | h_2 h3 =>
    rw [h3]
    split at h
    case h_1 h5 =>
      split at h
      case isTrue h2 => cases h; rw [h5, h2]; exact ⟨_, rfl, fun _ => rfl⟩
      case isFalse => cases h
    case h_12 => cases h
    all_goals next h5 => cases h; rw [h5]; exact ⟨_, rfl, fun _ => rfl⟩

/-! ### The records of the atomics (R180 to R203) -/

/-- R203's cases, in the fields that the decoder compares. -/
theorem amoIllegal_iff (w : Word) : amoIllegal w ↔ funct3 w ∉ [0b010#3, 0b011#3] ∨ amoOperationIllegal w := Iff.rfl

/-- An AMO word outside R203's cases is not rejected, so it is answered with its tag and its fields (R180). -/
theorem answers_amo {w : Word} (ho : opcode7 w = 0b0101111#7) (hl : ¬ amoIllegal w) :
    ∃ op r, amoTag (funct3 w) (funct5 w) = some op ∧ Answers w r ∧ r.opcode = op ∧ r.length = 4#3 ∧ amoFields w r := by
  cases hd : decodeAmo w with
  | illegal c => exact absurd ((decodeAmo_rejected w).1 ⟨c, hd⟩) hl
  | instr i =>
    obtain ⟨op, ht, he⟩ := exec_of_decodeAmo hd
    exact ⟨op, _, ht, answers_of_decode ((decode_amo ho).trans hd) he, rfl, rfl, rfl, rfl, rfl, rfl⟩

/-- An AMO word in one of R203's cases is in the third of R102's. -/
theorem decodeRecord_of_amoIllegal {w : Word} (ho : opcode7 w = 0b0101111#7) (h : amoIllegal w) :
    decodeRecord w = illegalRecord 4#3 :=
  decodeRecord_of_illegalWith (.inr ⟨rfl, .inr (.inl ⟨ho, h⟩)⟩)

/-- The value of a row of the AMO map: a legal AMO word whose width and operation have the tag. -/
abbrev AmoRowValue (v : Word) (op : Opcode) : Prop :=
  opcode7 v = 0b0101111#7 ∧ ¬ amoIllegal v ∧ amoTag (funct3 v) (funct5 v) = some op

/-- The words of a row whose mask covers major opcode, `funct3` and `funct5` have the row's tag; they are legal when the
mask also covers `rs2` or the row is no LR. -/
theorem rowAnswers_amo {m v : Word} {op : Opcode} (hv : AmoRowValue v op)
    (hmo : opcode7 m = BitVec.allOnes 7) (hm3 : funct3 m = BitVec.allOnes 3) (hm5 : funct5 m = BitVec.allOnes 5)
    (hlr : funct5 v = 0b00010#5 → fieldRs2 m = BitVec.allOnes 5) : RowAnswers ⟨m, v⟩ op 4#3 amoFields := by
  intro w (h : w &&& m = v)
  obtain ⟨ho, hl, ht⟩ := hv
  have h3 : funct3 w = funct3 v := funct3_of_row h hm3
  have h5 : funct5 w = funct5 v := funct5_of_row h hm5
  have hlw : ¬ amoIllegal w := by
    rw [amoIllegal_iff] at hl ⊢
    rw [amoOperationIllegal, h3, h5]
    refine mt (Or.imp_right (Or.imp_right fun ⟨hlv, h2⟩ => ⟨hlv, ?_⟩)) hl
    rwa [← fieldRs2_of_row h (hlr hlv)]
  obtain ⟨op', r, htw, ha, hop, hr⟩ := answers_amo ((opcode7_of_row h hmo).trans ho) hlw
  rw [h3, h5, ht] at htw
  exact ⟨r, ha, hop.trans (Option.some.inj htw).symm, hr⟩

/-- The words of an LR row: the mask covers `rs2`, so the record's is the row's. -/
theorem rowAnswers_lr {v : Word} {op : Opcode} (hv : AmoRowValue v op) (h2 : fieldRs2 v = 0#5) :
    RowAnswers ⟨0xF9F0707F#32, v⟩ op 4#3 fun w r => amoFields w r ∧ r.rs2 = 0#5 := by
  intro w (h : w &&& 0xF9F0707F#32 = v)
  obtain ⟨r, ha, hop, hn, hrd, hrs1, hrs2, himm⟩ := rowAnswers_amo hv rfl rfl rfl (fun _ => rfl) w h
  exact ⟨r, ha, hop, hn, ⟨hrd, hrs1, hrs2, himm⟩, hrs2.trans ((fieldRs2_of_row h rfl).trans h2)⟩

/-- A word with an LR's major opcode and operation whose `rs2` is not 0 is in the third of R203's cases. -/
theorem decodeRecord_of_lrRs2 {v : Word} (ho : opcode7 v = 0b0101111#7) (h5 : funct5 v = 0b00010#5) (w : Word)
    (h : w &&& 0xF800707F#32 = v) (h2 : w.extractLsb 24 20 ≠ 0#5) : decodeRecord w = illegalRecord 4#3 :=
  decodeRecord_of_amoIllegal ((opcode7_of_row h rfl).trans ho) (.inr (.inr ⟨(funct5_of_row h rfl).trans h5, h2⟩))

/-- The words of a row that is no LR's. -/
theorem rowAnswers_scOrAmo {v : Word} {op : Opcode} (h : AmoRowValue v op ∧ funct5 v ≠ 0b00010#5) :
    RowAnswers ⟨0xF800707F#32, v⟩ op 4#3 amoFields :=
  rowAnswers_amo h.1 rfl rfl rfl fun h5 => absurd h5 h.2

/-- Settles O12: the value of each row is a legal AMO word with the row's tag. -/
theorem amoWordRecords : Obligations.AmoWordRecords := by
  refine ⟨rowAnswers_lr (by decide) rfl, decodeRecord_of_lrRs2 rfl rfl, fun p hp => rowAnswers_scOrAmo ?_⟩
  revert p
  decide

/-- Settles O13: the value of each row is a legal AMO word with the row's tag. -/
theorem amoDoublewordRecords : Obligations.AmoDoublewordRecords := by
  refine ⟨rowAnswers_lr (by decide) rfl, decodeRecord_of_lrRs2 rfl rfl, fun p hp => rowAnswers_scOrAmo ?_⟩
  revert p
  decide

/-- Settles O26: R203's cases are those of R102's third, and the tag of any other AMO word is an atomic's. -/
theorem amoIllegalExactly : Obligations.AmoIllegalExactly := by
  refine fun w ho => ⟨decodeRecord_of_amoIllegal ho, fun hl => ?_⟩
  obtain ⟨op, r, ht, ha, hop, -⟩ := answers_amo ho hl
  rw [decodeRecord_of_answers ha, hop]
  exact isLr_or_isScOrAmo_of_amoTag ht

end Sys2Proof.Machine

namespace Sys2Proof.Machine

/-! ### The records of the fused multiply-adds (R220 to R229) -/

/-- A word whose record has an instruction's tag is on neither shared path, so it is answered in every state. -/
theorem answers_of_isInstruction {w : Word} (h : (decodeRecord w).opcode.isInstruction = true) :
    Answers w (decodeRecord w) := by
  rcases runWord_cases w with ⟨r, -, hr, hdrives⟩ | ⟨n, -, hr, -⟩ | ⟨n, -, hr, -⟩
  · rw [hr]
    exact answers_of_drives hdrives
  · rw [hr] at h; cases h
  · rw [hr] at h; cases h

theorem isInstruction_of_isFma {op : Opcode} (h : op.isFma = true) : op.isInstruction = true := by
  cases op <;> cases h <;> rfl

theorem isFma_of_fmaTag {op7 : BitVec 7} {fmt : BitVec 2} {op : Opcode} (ht : fmaTag op7 fmt = some op) :
    op.isFma = true := by
  unfold fmaTag at ht
  split at ht <;> cases ht <;> rfl

/-- The four major opcodes have a tag in every format but 10 and 11 (R101). -/
theorem fmaTag_isSome : ∀ op7 ∈ [0b1000011#7, 0b1000111#7, 0b1001011#7, 0b1001111#7],
    ∀ fmt : BitVec 2, fmt ∉ [0b10#2, 0b11#2] → (fmaTag op7 fmt).isSome = true := by decide

/-- A word whose major opcode and format have a tag is answered with the tag and the word's fields (R220). -/
theorem answers_of_fmaTag {w : Word} {op : Opcode} (ht : fmaTag (opcode7 w) (fmt2 w) = some op) :
    Answers w (fmaRecord w op (fieldRd w) (fieldRs1 w) (fieldRs2 w) (funct5 w) (funct3 w)) := by
  have hr := decodeRecord_of_fmaTag ht
  rw [← hr]
  refine answers_of_isInstruction ?_
  rw [hr]
  exact isInstruction_of_isFma (isFma_of_fmaTag ht)

/-- The mask of the rows covers major opcode and format, so the words of a row have the tag of its value. -/
theorem rowAnswers_fma {v : Word} {op : Opcode} (hv : fmaTag (opcode7 v) (fmt2 v) = some op) :
    RowAnswers ⟨0x0600007F#32, v⟩ op 4#3 fmaFields := fun w (h : w &&& 0x0600007F#32 = v) => by
  have ho : opcode7 w = opcode7 v := opcode7_of_row h rfl
  have hf : fmt2 w = fmt2 v := fmt2_of_row h rfl
  rw [← ho, ← hf] at hv
  exact ⟨_, answers_of_fmaTag hv, rfl, rfl, rfl, rfl, rfl, rfl, rfl⟩

/-- A fused multiply-add word of another format is in the fourth of R102's cases. -/
theorem decodeRecord_of_fmaFormat {w : Word} (ho : opcode7 w ∈ [0b1000011#7, 0b1000111#7, 0b1001011#7, 0b1001111#7])
    (hf : fmt2 w ∈ [0b10#2, 0b11#2]) : decodeRecord w = illegalRecord 4#3 :=
  decodeRecord_of_illegalWith (.inr ⟨rfl, .inr (.inr (.inl ⟨ho, hf⟩))⟩)

/-- Settles O14: the value of each row has the row's tag, and the words of the other formats are R102's. -/
theorem fmaRecords : Obligations.FmaRecords := by
  refine ⟨fun p hp => rowAnswers_fma ?_, fun _ => decodeRecord_of_fmaFormat⟩
  revert p
  decide

/-- Settles O27: in the formats that R102 does not reject, major opcode and format have a tag, and it is a fused
multiply-add's. -/
theorem fmaIllegalFormats : Obligations.FmaIllegalFormats := by
  refine fun w ho => ⟨decodeRecord_of_fmaFormat ho, fun hf => ?_⟩
  obtain ⟨op, ht⟩ := Option.isSome_iff_exists.1 (fmaTag_isSome _ ho _ hf)
  rw [decodeRecord_of_answers (answers_of_fmaTag ht)]
  exact isFma_of_fmaTag ht

end Sys2Proof.Machine

namespace Sys2Proof.Machine

/-! ### The records of OP-FP (R240) -/

theorem opcode_opFpRecord (w : Word) (op : Opcode) (rd rs1 rs2 : Reg) (rm : Rm) :
    (opFpRecord w op rd rs1 rs2 rm).opcode = op := rfl

/-- The words of an OP-FP row have the tag of its value, the word of the row with every operand 0. -/
theorem opcode_decodeRecord_eq_row {w : Word} {i : Instr} (hd : decode w = .instr i)
    (h : (decodeRecord i.row.value).opcode.isOpFp = true) :
    (decodeRecord w).opcode = (decodeRecord i.row.value).opcode := by
  cases i
  case faddS | fsubS | fmulS | fdivS | fsqrtS | fsgnjS | fsgnjnS | fsgnjxS | fminS | fmaxS | fcvtWS | fcvtWuS | fcvtLS
      | fcvtLuS | fmvXW | fclassS | feqS | fltS | fleS | fcvtSW | fcvtSWu | fcvtSL | fcvtSLu | fmvWX | fcvtSD
      | faddD | fsubD | fmulD | fdivD | fsqrtD | fsgnjD | fsgnjnD | fsgnjxD | fminD | fmaxD | fcvtWD | fcvtWuD | fcvtLD
      | fcvtLuD | fmvXD | fclassD | feqD | fltD | fleD | fcvtDW | fcvtDWu | fcvtDL | fcvtDLu | fmvDX | fcvtDS =>
    rw [decodeRecord_of_emit hd fun _ => rfl, opcode_opFpRecord, Instr.row]
    decide
  all_goals
    rw [Instr.row] at h
    exact absurd h (by decide)

/-- The record of an OP-FP tag holds the fields of the word. -/
theorem decodeRecord_of_isOpFp {w : Word} (h : (decodeRecord w).opcode.isOpFp = true) :
    (decodeRecord w).length = 4#3 ∧ opFpFields w (decodeRecord w) := by
  have hf := decodeRecord_form_of_rm (.inr h)
  have hn := (hf.rm_eq_funct3 (.inr h)).1
  rw [bitsRead_of_length_four hn] at hf
  refine ⟨hn, ?_⟩
  have himm := defines_of_isOpFp h .imm
  have hrs3 := defines_of_isOpFp h .rs3
  generalize decodeRecord w = r at hf himm hrs3 ⊢
  cases hf with
  | load hop => cases himm.symm.trans (defines_of_isLoad hop .imm)
  | store hop => cases himm.symm.trans (defines_of_isStore hop .imm)
  | amo hop => cases himm.symm.trans (defines_of_atomic hop .imm)
  | fma hop => cases hrs3.symm.trans (defines_of_isFma hop .rs3)
  | opFp => exact ⟨rfl, rfl, rfl, rfl⟩

theorem isInstruction_of_isOpFp {op : Opcode} (h : op.isOpFp = true) : op.isInstruction = true := by
  cases op <;> cases h <;> rfl

/-- A row of the OP-FP map (R100): the row that its value decodes to, with the tag of the value's record. -/
abbrev OpFpRowTag (row : Row) (op : Opcode) : Prop :=
  (decode row.value).row = some row ∧ (decodeRecord row.value).opcode = op ∧ op.isOpFp = true

/-- A word that matches an OP-FP row decodes to an instruction of the row, whose tag is the row's (R240). -/
theorem rowAnswers_opFp {row : Row} {op : Opcode} (hrow : OpFpRowTag row op) : RowAnswers row op 4#3 opFpFields := by
  intro w hw
  obtain ⟨hv, hop, hfp⟩ := hrow
  obtain ⟨i, rfl⟩ : ∃ i : Instr, i.row = row := by
    cases hd : decode row.value with
    | illegal c => rw [hd] at hv; cases hv
    | instr i => rw [hd] at hv; exact ⟨i, Option.some.inj hv⟩
  obtain ⟨j, hd, hr⟩ := ((decoderAgreesWithOpcodeTable w).1 i).1 (covers_iff.2 hw)
  have ht : (decodeRecord w).opcode = op := by
    rw [opcode_decodeRecord_eq_row hd (by rw [hr, hop, hfp]), hr, hop]
  rw [← ht] at hfp
  exact ⟨_, answers_of_isInstruction (isInstruction_of_isOpFp hfp), ht, decodeRecord_of_isOpFp hfp⟩

section Selected

variable {m v : Word} {op : Opcode} {sel2 : Reg} {sel3 : Rm}

/-- A row that selects by `rs2`: the record's is the row's. -/
theorem rowAnswers_opFp_rs2 (hm2 : fieldRs2 m = BitVec.allOnes 5) (hv : OpFpRowTag ⟨m, v⟩ op ∧ fieldRs2 v = sel2) :
    RowAnswers ⟨m, v⟩ op 4#3 fun w r => opFpFields w r ∧ r.rs2 = sel2 := by
  intro w (h : w &&& m = v)
  obtain ⟨hrow, hv2⟩ := hv
  obtain ⟨r, ha, hop, hn, hrd, hrs1, hrs2, hrm⟩ := rowAnswers_opFp hrow w h
  exact ⟨r, ha, hop, hn, ⟨hrd, hrs1, hrs2, hrm⟩, hrs2.trans ((fieldRs2_of_row h hm2).trans hv2)⟩

/-- A row that selects by `funct3`: the record's `rm` is the row's. -/
theorem rowAnswers_opFp_rm (hm3 : funct3 m = BitVec.allOnes 3) (hv : OpFpRowTag ⟨m, v⟩ op ∧ funct3 v = sel3) :
    RowAnswers ⟨m, v⟩ op 4#3 fun w r => opFpFields w r ∧ r.rm = sel3 := by
  intro w (h : w &&& m = v)
  obtain ⟨hrow, hv3⟩ := hv
  obtain ⟨r, ha, hop, hn, hrd, hrs1, hrs2, hrm⟩ := rowAnswers_opFp hrow w h
  exact ⟨r, ha, hop, hn, ⟨hrd, hrs1, hrs2, hrm⟩, hrm.trans ((funct3_of_row h hm3).trans hv3)⟩

/-- A row that selects by both. -/
theorem rowAnswers_opFp_rs2_rm (hm2 : fieldRs2 m = BitVec.allOnes 5) (hm3 : funct3 m = BitVec.allOnes 3)
    (hv : OpFpRowTag ⟨m, v⟩ op ∧ fieldRs2 v = sel2 ∧ funct3 v = sel3) :
    RowAnswers ⟨m, v⟩ op 4#3 fun w r => opFpFields w r ∧ r.rs2 = sel2 ∧ r.rm = sel3 := by
  intro w (h : w &&& m = v)
  obtain ⟨hrow, hv2, hv3⟩ := hv
  obtain ⟨r, ha, hop, hn, hrd, hrs1, hrs2, hrm⟩ := rowAnswers_opFp hrow w h
  exact ⟨r, ha, hop, hn, ⟨hrd, hrs1, hrs2, hrm⟩, hrs2.trans ((fieldRs2_of_row h hm2).trans hv2),
    hrm.trans ((funct3_of_row h hm3).trans hv3)⟩

end Selected

/-! ### The OP-FP words outside the map, by what selects (R240) -/

section Unlisted

variable {w : Word} {f7 : BitVec 7} (h7 : funct7 w = f7)

include h7

/-- A word is outside the map if it agrees with none of the selectors of its `funct7`, in whatever order they stand. -/
theorem opFp_unlisted {sels : List (Option Reg × Option Rm)} (hs : (opFpSelectors f7).Perm sels) :
    ¬ opFpListed w ↔ ¬ SelectorsAgree w sels := by
  rw [opFpListed_iff, h7, selectorsAgree_perm hs]

theorem opFp_unlisted_none (hs : opFpSelectors f7 = []) : ¬ opFpListed w := by
  rw [opFp_unlisted h7 (.of_eq hs)]
  simp [SelectorsAgree]

theorem opFp_listed_arith (hs : opFpSelectors f7 = [(none, none)]) : opFpListed w := by
  by_contra h
  rw [opFp_unlisted h7 (.of_eq hs)] at h
  simp [SelectorsAgree, agrees] at h

theorem opFp_unlisted_unary {sel : Reg} (hs : opFpSelectors f7 = [(some sel, none)]) :
    ¬ opFpListed w ↔ fieldRs2 w ≠ sel := by
  rw [opFp_unlisted h7 (.of_eq hs)]
  simp [SelectorsAgree, agrees]

theorem opFp_unlisted_convert
    (hs : opFpSelectors f7 = [(some 0#5, none), (some 1#5, none), (some 2#5, none), (some 3#5, none)]) :
    ¬ opFpListed w ↔ fieldRs2 w ∉ [0b00000#5, 0b00001#5, 0b00010#5, 0b00011#5] := by
  rw [opFp_unlisted h7 (.of_eq hs)]
  simp [SelectorsAgree, agrees]

theorem opFp_unlisted_select3
    (hs : (opFpSelectors f7).Perm [(none, some 0#3), (none, some 1#3), (none, some 2#3)]) :
    ¬ opFpListed w ↔ funct3 w ∉ [0b000#3, 0b001#3, 0b010#3] := by
  rw [opFp_unlisted h7 hs]
  simp [SelectorsAgree, agrees]

theorem opFp_unlisted_select2 (hs : opFpSelectors f7 = [(none, some 0#3), (none, some 1#3)]) :
    ¬ opFpListed w ↔ funct3 w ∉ [0b000#3, 0b001#3] := by
  rw [opFp_unlisted h7 (.of_eq hs)]
  simp [SelectorsAgree, agrees]

theorem opFp_unlisted_moveClass (hs : opFpSelectors f7 = [(some 0#5, some 0#3), (some 0#5, some 1#3)]) :
    ¬ opFpListed w ↔ fieldRs2 w ≠ 0b00000#5 ∨ funct3 w ∉ [0b000#3, 0b001#3] := by
  rw [opFp_unlisted h7 (.of_eq hs)]
  by_cases h2 : fieldRs2 w = 0#5 <;> simp [SelectorsAgree, agrees, h2]

theorem opFp_unlisted_moveIn (hs : opFpSelectors f7 = [(some 0#5, some 0#3)]) :
    ¬ opFpListed w ↔ fieldRs2 w ≠ 0b00000#5 ∨ funct3 w ≠ 0b000#3 := by
  rw [opFp_unlisted h7 (.of_eq hs)]
  simp [SelectorsAgree, agrees, imp_iff_not_or]

end Unlisted

/-- An OP-FP word outside the map is in the last of R102's cases. -/
theorem decodeRecord_of_opFp_unlisted {w : Word} (ho : opcode7 w = 0b1010011#7) (h : ¬ opFpListed w) :
    decodeRecord w = illegalRecord 4#3 :=
  decodeRecord_of_illegalWith (.inr ⟨rfl, .inr (.inr (.inr ⟨ho, h⟩))⟩)

theorem decodeRecord_opFp_illegal_iff {w : Word} (ho : opcode7 w = 0b1010011#7) :
    decodeRecord w = illegalRecord 4#3 ↔ ¬ opFpListed w := by
  refine ⟨fun h => ?_, decodeRecord_of_opFp_unlisted ho⟩
  rcases decode_of_opcode_illegal (congrArg Record.opcode h) with hd | hd
  · cases h.symm.trans (decodeRecord_of_long hd)
  · rwa [decode_opFp ho, decodeOpFp_rejected] at hd

theorem selectorMismatch_of_unlisted {f7 : BitVec 7} {bad : Reg → Rm → Prop}
    (h : ∀ w, funct7 w = f7 → (¬ opFpListed w ↔ bad (fieldRs2 w) (funct3 w))) : SelectorMismatch f7 bad :=
  fun w ho h7 hb => decodeRecord_of_opFp_unlisted ho ((h w h7).2 hb)

/-! ### The obligations about single precision -/

/-- Settles O15: the value of each row has the row's tag and selectors, and no other selector is in the map. -/
theorem opFpSingleArithmeticRecords : Obligations.OpFpSingleArithmeticRecords := by
  refine ⟨fun p hp => rowAnswers_opFp ?_, rowAnswers_opFp_rs2 rfl (by decide), fun p hp => rowAnswers_opFp_rm rfl ?_,
    selectorMismatch_of_unlisted fun _ h7 => opFp_unlisted_unary h7 (by decide),
    selectorMismatch_of_unlisted fun _ h7 => opFp_unlisted_select3 h7 (by decide),
    selectorMismatch_of_unlisted fun _ h7 => opFp_unlisted_select2 h7 (by decide)⟩
  all_goals
    revert p
    decide

/-- Settles O16: in the conversions `rs2` alone selects. -/
theorem opFpSingleConversionRecords : Obligations.OpFpSingleConversionRecords := by
  refine ⟨fun p hp => rowAnswers_opFp_rs2 rfl ?_,
    selectorMismatch_of_unlisted fun _ h7 => opFp_unlisted_convert h7 (by decide),
    selectorMismatch_of_unlisted fun _ h7 => opFp_unlisted_convert h7 (by decide),
    selectorMismatch_of_unlisted fun _ h7 => opFp_unlisted_unary h7 (by decide)⟩
  revert p
  decide

/-- Settles O17: the moves and the classification select by both fields, the compares by `funct3`. -/
theorem opFpSingleMoveCompareRecords : Obligations.OpFpSingleMoveCompareRecords := by
  refine ⟨fun p hp => rowAnswers_opFp_rs2_rm rfl rfl ?_, fun p hp => rowAnswers_opFp_rm rfl ?_,
    selectorMismatch_of_unlisted fun _ h7 => opFp_unlisted_moveClass h7 (by decide),
    selectorMismatch_of_unlisted fun _ h7 => opFp_unlisted_moveIn h7 (by decide),
    selectorMismatch_of_unlisted fun _ h7 => opFp_unlisted_select3 h7 (by decide)⟩
  all_goals
    revert p
    decide

/-! ### The illegal words of single precision (R266) -/

/-- A word's `funct7` is its operation and its format (R92). -/
theorem funct7_eq_append (w : Word) : funct7 w = funct5 w ++ fmt2 w := by
  have h : w.extractLsb' 27 5 ++ w.extractLsb' 25 2 = w.extractLsb' 25 7 :=
    BitVec.extractLsb'_append_extractLsb'_eq_extractLsb' rfl
  exact h.symm

/-- The operations that have no row in the map (R266, its first case). -/
def unassignedFunct5s : List (BitVec 5) :=
  [0b00110#5, 0b00111#5, 0b01001#5, 0b01010#5, 0b01100#5, 0b01101#5, 0b01110#5, 0b01111#5, 0b10000#5, 0b10001#5,
   0b10010#5, 0b10011#5, 0b10101#5, 0b10110#5, 0b10111#5, 0b11001#5, 0b11011#5, 0b11101#5, 0b11111#5]

/-- An operation is unassigned, an arithmetic one that selects by nothing, or one whose instructions select. -/
theorem funct5_cases : ∀ f5 : BitVec 5, f5 ∈ unassignedFunct5s ∨
    (f5 = 0b00000#5 ∨ f5 = 0b00001#5 ∨ f5 = 0b00010#5 ∨ f5 = 0b00011#5) ∨ f5 = 0b01011#5 ∨ f5 = 0b00100#5 ∨
      f5 = 0b00101#5 ∨ f5 = 0b10100#5 ∨ (f5 = 0b11000#5 ∨ f5 = 0b11010#5) ∨ f5 = 0b11100#5 ∨ f5 = 0b11110#5 ∨
      f5 = 0b01000#5 := by decide

theorem opFpSelectors_unassigned : ∀ f5 ∈ unassignedFunct5s, opFpSelectors (f5 ++ 0b00#2) = [] := by decide

theorem opFpSelectors_otherFormat :
    ∀ f5 : BitVec 5, ∀ fmt ∈ [0b10#2, 0b11#2], opFpSelectors (f5 ++ fmt) = [] := by decide

theorem notMem_select3_iff : ∀ f3 : BitVec 3, f3 ∉ [0b000#3, 0b001#3, 0b010#3] ↔ 3 ≤ f3.toNat := by decide

theorem notMem_convert_iff :
    ∀ rs2 : Reg, rs2 ∉ [0b00000#5, 0b00001#5, 0b00010#5, 0b00011#5] ↔ 4 ≤ rs2.toNat := by decide

/-- R266's nine cases, in the fields that the decoder compares. -/
abbrev opFpSingleIllegalCase (w : Word) : Prop :=
  funct5 w ∈ unassignedFunct5s ∨
  (funct7 w = 0b0101100#7 ∧ fieldRs2 w ≠ 0#5) ∨
  (funct7 w = 0b0010000#7 ∧ 3 ≤ (funct3 w).toNat) ∨
  (funct7 w = 0b0010100#7 ∧ funct3 w ∉ [0b000#3, 0b001#3]) ∨
  (funct7 w = 0b1010000#7 ∧ funct3 w ∉ [0b000#3, 0b001#3, 0b010#3]) ∨
  (funct7 w ∈ [0b1100000#7, 0b1101000#7] ∧ 4 ≤ (fieldRs2 w).toNat) ∨
  (funct7 w = 0b1110000#7 ∧ (fieldRs2 w ≠ 0#5 ∨ funct3 w ∉ [0b000#3, 0b001#3])) ∨
  (funct7 w = 0b1111000#7 ∧ (fieldRs2 w ≠ 0#5 ∨ funct3 w ≠ 0b000#3)) ∨
  (funct7 w = 0b0100000#7 ∧ fieldRs2 w ≠ 0b00001#5)

/-- In single precision the words outside the map are those of R266, operation by operation: an unassigned one has no
selectors, and an assigned one is in the case of R266 that names its selectors, if it has any. -/
theorem opFpSingle_unlisted_iff {w : Word} (hf : fmt2 w = 0b00#2) : ¬ opFpListed w ↔ opFpSingleIllegalCase w := by
  have h7 : funct7 w = funct5 w ++ 0b00#2 := hf ▸ funct7_eq_append w
  rcases funct5_cases (funct5 w) with h5 | (h5 | h5 | h5 | h5) | h5 | h5 | h5 | h5 | (h5 | h5) | h5 | h5 | h5
  case inl => exact iff_of_true (opFp_unlisted_none h7 (opFpSelectors_unassigned _ h5)) (.inl h5)
  all_goals rw [h5] at h7
  iterate 4
    · have hlisted : opFpListed w := opFp_listed_arith h7 (by decide)
      simp [hlisted, opFpSingleIllegalCase, h5, h7, unassignedFunct5s]
  · rw [opFp_unlisted_unary (sel := 0#5) h7 (by decide)]
    simp [opFpSingleIllegalCase, h5, h7, unassignedFunct5s]
  · rw [opFp_unlisted_select3 h7 (by decide), notMem_select3_iff]
    simp [opFpSingleIllegalCase, h5, h7, unassignedFunct5s]
  · rw [opFp_unlisted_select2 h7 (by decide)]
    simp [opFpSingleIllegalCase, h5, h7, unassignedFunct5s]
  · rw [opFp_unlisted_select3 h7 (by decide)]
    simp [opFpSingleIllegalCase, h5, h7, unassignedFunct5s]
  iterate 2
    · rw [opFp_unlisted_convert h7 (by decide), notMem_convert_iff]
      simp [opFpSingleIllegalCase, h5, h7, unassignedFunct5s]
  · rw [opFp_unlisted_moveClass h7 (by decide)]
    simp [opFpSingleIllegalCase, h5, h7, unassignedFunct5s]
  · rw [opFp_unlisted_moveIn h7 (by decide)]
    simp [opFpSingleIllegalCase, h5, h7, unassignedFunct5s]
  · rw [opFp_unlisted_unary (sel := 1#5) h7 (by decide)]
    simp [opFpSingleIllegalCase, h5, h7, unassignedFunct5s]

/-- Settles O28: an OP-FP word is illegal if it is outside the map, which has no row of another format. -/
theorem opFpSingleIllegal : Obligations.OpFpSingleIllegal := by
  refine fun w ho => ⟨fun hf => (decodeRecord_opFp_illegal_iff ho).trans (opFpSingle_unlisted_iff hf), fun hf => ?_⟩
  exact decodeRecord_of_opFp_unlisted ho (opFp_unlisted_none (funct7_eq_append w) (opFpSelectors_otherFormat _ _ hf))

end Sys2Proof.Machine

namespace Sys2Proof.Machine

/-! ### The obligations about the records of double precision -/

/-- Settles O18: the value of each row has the row's tag and selectors, and no other selector is in the map. -/
theorem opFpDoubleArithmeticRecords : Obligations.OpFpDoubleArithmeticRecords := by
  refine ⟨fun p hp => rowAnswers_opFp ?_, rowAnswers_opFp_rs2 rfl (by decide), fun p hp => rowAnswers_opFp_rm rfl ?_,
    selectorMismatch_of_unlisted fun _ h7 => opFp_unlisted_unary h7 (by decide),
    selectorMismatch_of_unlisted fun _ h7 => opFp_unlisted_select3 h7 (by decide),
    selectorMismatch_of_unlisted fun _ h7 => opFp_unlisted_select2 h7 (by decide)⟩
  all_goals
    revert p
    decide

/-- Settles O19: in the conversions `rs2` alone selects. -/
theorem opFpDoubleConversionRecords : Obligations.OpFpDoubleConversionRecords := by
  refine ⟨fun p hp => rowAnswers_opFp_rs2 rfl ?_,
    selectorMismatch_of_unlisted fun _ h7 => opFp_unlisted_convert h7 (by decide),
    selectorMismatch_of_unlisted fun _ h7 => opFp_unlisted_convert h7 (by decide),
    selectorMismatch_of_unlisted fun _ h7 => opFp_unlisted_unary h7 (by decide)⟩
  revert p
  decide

/-- Settles O20: the moves and the classification select by both fields, the compares by `funct3`. -/
theorem opFpDoubleMoveCompareRecords : Obligations.OpFpDoubleMoveCompareRecords := by
  refine ⟨fun p hp => rowAnswers_opFp_rs2_rm rfl rfl ?_, fun p hp => rowAnswers_opFp_rm rfl ?_,
    selectorMismatch_of_unlisted fun _ h7 => opFp_unlisted_moveClass h7 (by decide),
    selectorMismatch_of_unlisted fun _ h7 => opFp_unlisted_moveIn h7 (by decide),
    selectorMismatch_of_unlisted fun _ h7 => opFp_unlisted_select3 h7 (by decide)⟩
  all_goals
    revert p
    decide

/-! ### Words that differ in their precision alone (R280) -/

/-- A word of single precision and one of double precision with the same other bits. -/
structure PrecisionMirror (w d : Word) : Prop where
  single : fmt2 w = 0b00#2
  double : fmt2 d = 0b01#2
  others : d &&& 0xF9FFFFFF#32 = w &&& 0xF9FFFFFF#32

/-- The double-precision word of a single-precision one. -/
theorem precisionMirror_double {w : Word} (hf : fmt2 w = 0b00#2) : PrecisionMirror w (w ||| 0x02000000#32) where
  single := hf
  double := by rw [fmt2, BitVec.extractLsb'_or, ← fmt2, hf]; rfl
  others := by rw [BitVec.and_or_distrib_right]; exact BitVec.or_zero

/-- The single-precision word of a double-precision one. -/
theorem precisionMirror_single {d : Word} (hf : fmt2 d = 0b01#2) : PrecisionMirror (d &&& 0xF9FFFFFF#32) d where
  single := by rw [fmt2, BitVec.extractLsb'_and, ← fmt2, hf]; rfl
  double := hf
  others := by rw [BitVec.and_assoc, BitVec.and_self]

/-- Once the format is known, `funct7` says what the operation is (R92). -/
theorem funct7_eq_iff {w : Word} {f7 : BitVec 7} (hf : fmt2 w = f7.extractLsb' 0 2) :
    funct7 w = f7 ↔ funct5 w = f7.extractLsb' 2 5 := by
  refine ⟨fun h => h ▸ funct5_eq_funct7 w, fun h => ?_⟩
  rw [funct7_eq_append, h, hf]
  exact (BitVec.extractLsb'_append_extractLsb'_eq_extractLsb' rfl).trans BitVec.extractLsb'_eq_self

/-- But for the conversion between precisions, both formats of an operation have the same selectors (R100). -/
theorem opFpSelectors_double :
    ∀ f5 : BitVec 5, f5 ≠ 0b01000#5 → opFpSelectors (f5 ++ 0b01#2) = opFpSelectors (f5 ++ 0b00#2) := by decide

/-- R306's nine cases, in the fields that the decoder compares. -/
abbrev opFpDoubleIllegalCase (w : Word) : Prop :=
  funct5 w ∈ unassignedFunct5s ∨
  (funct7 w = 0b0101101#7 ∧ fieldRs2 w ≠ 0#5) ∨
  (funct7 w = 0b0010001#7 ∧ 3 ≤ (funct3 w).toNat) ∨
  (funct7 w = 0b0010101#7 ∧ funct3 w ∉ [0b000#3, 0b001#3]) ∨
  (funct7 w = 0b1010001#7 ∧ funct3 w ∉ [0b000#3, 0b001#3, 0b010#3]) ∨
  (funct7 w ∈ [0b1100001#7, 0b1101001#7] ∧ 4 ≤ (fieldRs2 w).toNat) ∨
  (funct7 w = 0b1110001#7 ∧ (fieldRs2 w ≠ 0#5 ∨ funct3 w ∉ [0b000#3, 0b001#3])) ∨
  (funct7 w = 0b1111001#7 ∧ (fieldRs2 w ≠ 0#5 ∨ funct3 w ≠ 0b000#3)) ∨
  (funct7 w = 0b0100001#7 ∧ fieldRs2 w ≠ 0#5)

namespace PrecisionMirror

variable {w d : Word} (h : PrecisionMirror w d)

include h

theorem opcode7_eq : opcode7 d = opcode7 w := slice_of_masked h.others 0 7 (by decide)
theorem fieldRd_eq : fieldRd d = fieldRd w := slice_of_masked h.others 7 5 (by decide)
theorem funct3_eq : funct3 d = funct3 w := slice_of_masked h.others 12 3 (by decide)
theorem fieldRs1_eq : fieldRs1 d = fieldRs1 w := slice_of_masked h.others 15 5 (by decide)
theorem fieldRs2_eq : fieldRs2 d = fieldRs2 w := slice_of_masked h.others 20 5 (by decide)
theorem funct5_eq : funct5 d = funct5 w := slice_of_masked h.others 27 5 (by decide)

theorem funct7_single : funct7 w = funct5 w ++ 0b00#2 := h.single ▸ funct7_eq_append w

theorem funct7_double : funct7 d = funct5 w ++ 0b01#2 := h.funct5_eq ▸ h.double ▸ funct7_eq_append d

/-- Both words are in the map, or neither. -/
theorem listed_iff (h5 : funct5 w ≠ 0b01000#5) : opFpListed d ↔ opFpListed w := by
  rw [opFpListed_iff, opFpListed_iff, h.funct7_single, h.funct7_double, opFpSelectors_double _ h5, SelectorsAgree,
    SelectorsAgree, h.fieldRs2_eq, h.funct3_eq]

/-- Case by case, R306 says of the one word what R266 says of the other. -/
theorem illegalCase_iff (h5 : funct5 w ≠ 0b01000#5) : opFpDoubleIllegalCase d ↔ opFpSingleIllegalCase w := by
  simp [opFpDoubleIllegalCase, opFpSingleIllegalCase, funct7_eq_iff, h.single, h.double, h.funct5_eq, h.fieldRs2_eq,
    h.funct3_eq, h5]

end PrecisionMirror

/-! ### The illegal words of double precision (R306) -/

/-- In double precision the words outside the map are those of R306: the conversion from single precision has its own
selector, and every other word is outside the map if its single-precision mirror is. -/
theorem opFpDouble_unlisted_iff {d : Word} (hf : fmt2 d = 0b01#2) : ¬ opFpListed d ↔ opFpDoubleIllegalCase d := by
  by_cases h5 : funct5 d = 0b01000#5
  · have h7 : funct7 d = 0b0100001#7 := (funct7_eq_iff hf).2 h5
    rw [opFp_unlisted_unary (sel := 0#5) h7 (by decide)]
    simp [opFpDoubleIllegalCase, h5, h7, unassignedFunct5s]
  · have h := precisionMirror_single hf
    rw [h.funct5_eq] at h5
    rw [h.listed_iff h5, opFpSingle_unlisted_iff h.single, h.illegalCase_iff h5]

/-- Settles O29: an OP-FP word is illegal exactly if it is outside the map. -/
theorem opFpDoubleIllegal : Obligations.OpFpDoubleIllegal :=
  fun _ ho hf => (decodeRecord_opFp_illegal_iff ho).trans (opFpDouble_unlisted_iff hf)

/-! ### The rows of the OP-FP map as rows of the opcode table (R100, R105) -/

/-- The row of the opcode table for a row of the map: its mask covers the fields that the row fixes. -/
def OpFpRow.tableRow (row : OpFpRow) : Row where
  mask := encR (BitVec.allOnes 7) (row.rs2.elim 0#5 fun _ => BitVec.allOnes 5) 0#5
    (row.funct3.elim 0#3 fun _ => BitVec.allOnes 3) 0#5 (BitVec.allOnes 7)
  value := encR row.funct7 (row.rs2.getD 0#5) 0#5 (row.funct3.getD 0#3) 0#5 0b1010011#7

/-- The tag of the row's words. -/
def OpFpRow.tag (row : OpFpRow) : Opcode := (decodeRecord row.tableRow.value).opcode

/-- The double-precision row with the same operation and selectors. -/
def OpFpRow.toDouble (row : OpFpRow) : OpFpRow :=
  { row with funct7 := row.funct7.extractLsb' 2 5 ++ 0b01#2 }

theorem and_selectorMask_of_agrees {n : Nat} {want : Option (BitVec n)} {x : BitVec n} (h : agrees want x = true) :
    x &&& want.elim 0#n (fun _ => BitVec.allOnes n) = want.getD 0#n := by
  cases want with
  | none => exact BitVec.and_zero
  | some v => exact BitVec.and_allOnes.trans (eq_of_beq h)

/-- An OP-FP word that agrees with a row of the map matches the row of the opcode table. -/
theorem and_tableRow_mask {w : Word} {row : OpFpRow} (ho : opcode7 w = 0b1010011#7) (h7 : funct7 w = row.funct7)
    (h2 : agrees row.rs2 (fieldRs2 w) = true) (h3 : agrees row.funct3 (funct3 w) = true) :
    w &&& row.tableRow.mask = row.tableRow.value := by
  rw [← covers_iff, ← encR_opFpFields ho h7]
  refine covers_encR _ _ _ rfl ?_
  rw [BitVec.and_allOnes, and_selectorMask_of_agrees h2, and_selectorMask_of_agrees h3]
  rfl

/-- The record of an OP-FP word that agrees with a row of the map (R240). -/
theorem decodeRecord_of_opFpRow {w : Word} {row : OpFpRow} (hrow : OpFpRowTag row.tableRow row.tag)
    (ho : opcode7 w = 0b1010011#7) (h7 : funct7 w = row.funct7) (h2 : agrees row.rs2 (fieldRs2 w) = true)
    (h3 : agrees row.funct3 (funct3 w) = true) :
    (decodeRecord w).opcode = row.tag ∧ (decodeRecord w).length = 4#3 ∧ opFpFields w (decodeRecord w) := by
  obtain ⟨r, ha, hr⟩ := rowAnswers_opFp hrow w (and_tableRow_mask ho h7 h2 h3)
  rwa [decodeRecord_of_answers ha]

/-- The double-precision row of each single-precision one has the double-precision tag, but for the conversion between
precisions. -/
theorem doubleTag_of_row : ∀ row ∈ opFpSingleRows, row.funct7.extractLsb' 2 5 ≠ 0b01000#5 →
    OpFpRowTag row.tableRow row.tag ∧ OpFpRowTag row.toDouble.tableRow row.toDouble.tag ∧
      doubleTag row.tag = some row.toDouble.tag := by decide

/-- A row of the map is of single precision if its format is. -/
theorem mem_opFpSingleRows : ∀ row ∈ opFpSingleRows ++ opFpDoubleRows,
    row.funct7.extractLsb' 0 2 = 0b00#2 → row ∈ opFpSingleRows := by decide

/-! ### Double precision decodes as single precision does (R280) -/

/-- A word of the map agrees with one row, and its mirror with the double-precision row of that one. -/
theorem PrecisionMirror.records_of_listed {w d : Word} (h : PrecisionMirror w d) (ho : opcode7 w = 0b1010011#7)
    (h5 : funct5 w ≠ 0b01000#5) (hl : opFpListed w) :
    doubleTag (decodeRecord w).opcode = some (decodeRecord d).opcode ∧
      (decodeRecord d).length = (decodeRecord w).length ∧ (decodeRecord d).rd = (decodeRecord w).rd ∧
      (decodeRecord d).rs1 = (decodeRecord w).rs1 ∧ (decodeRecord d).rs2 = (decodeRecord w).rs2 ∧
      (decodeRecord d).rm = (decodeRecord w).rm := by
  obtain ⟨row, hmem, (h7 : funct7 w = row.funct7), h2, h3⟩ := hl
  have hfmt := h.single
  rw [fmt2_eq_funct7, h7] at hfmt
  rw [funct5_eq_funct7, h7] at h5
  obtain ⟨hrow, hrowD, htag⟩ := doubleTag_of_row row (mem_opFpSingleRows row hmem hfmt) h5
  have h7D : funct7 d = row.toDouble.funct7 := by
    rw [h.funct7_double, funct5_eq_funct7, h7]
    rfl
  obtain ⟨hop, hn, hrd, hrs1, hrs2, hrm⟩ := decodeRecord_of_opFpRow hrow ho h7 h2 h3
  obtain ⟨hopD, hnD, hrdD, hrs1D, hrs2D, hrmD⟩ := decodeRecord_of_opFpRow hrowD (h.opcode7_eq.trans ho) h7D
    (h.fieldRs2_eq ▸ h2) (h.funct3_eq ▸ h3)
  exact ⟨by rw [hop, hopD, htag], hnD.trans hn.symm, hrdD.trans (h.fieldRd_eq.trans hrd.symm),
    hrs1D.trans (h.fieldRs1_eq.trans hrs1.symm), hrs2D.trans (h.fieldRs2_eq.trans hrs2.symm),
    hrmD.trans (h.funct3_eq.trans hrm.symm)⟩

/-- Settles O30: two words are in the map or outside it together, and in it their rows have corresponding tags; the
conversion between precisions has one selector in each format. -/
theorem doublePrecisionMirrorsSingle : Obligations.DoublePrecisionMirrorsSingle := by
  rintro w _ ho hf rfl
  have h := precisionMirror_double hf
  have hoD := h.opcode7_eq.trans ho
  refine ⟨fun h5 => ?_, fun (h5 : funct5 w = _) => ?_⟩
  · by_cases hl : opFpListed w
    · exact .inr (h.records_of_listed ho h5 hl)
    · have hw := decodeRecord_of_opFp_unlisted ho hl
      have hd := decodeRecord_of_opFp_unlisted hoD (mt (h.listed_iff h5).1 hl)
      exact .inl ⟨congrArg Record.opcode hw, hd.trans hw.symm⟩
  · have h7 := h.funct7_single
    have h7D := h.funct7_double
    rw [h5] at h7 h7D
    have hunlisted := opFp_unlisted_unary (sel := 1#5) h7 (by decide)
    have hunlistedD := opFp_unlisted_unary (sel := 0#5) h7D (by decide)
    rw [h.fieldRs2_eq] at hunlistedD
    refine ⟨fun h2 => ?_, fun h2 => decodeRecord_of_opFp_unlisted ho (hunlisted.2 h2), fun h2 => ?_,
      fun h2 => decodeRecord_of_opFp_unlisted hoD (hunlistedD.2 h2)⟩
    · exact (decodeRecord_of_opFpRow (row := ⟨0b0100000#7, some 1#5, none⟩) (by decide) ho h7 (beq_iff_eq.2 h2) rfl).1
    · exact (decodeRecord_of_opFpRow (row := ⟨0b0100001#7, some 0#5, none⟩) (by decide) hoD h7D
        (beq_iff_eq.2 (h.fieldRs2_eq.trans h2)) rfl).1

end Sys2Proof.Machine

namespace Sys2Proof.Machine

/-! ### The caller's action by the record's tag (R339) -/

theorem callerAction_of_opcode_illegal {r : Record} (w : Word) (h : r.opcode = .illegal) :
    callerAction r w = .raise .illegalInstruction (trapValue r.length w) := by rw [callerAction, h]

theorem callerAction_of_opcode_unimplemented {r : Record} (w : Word) (h : r.opcode = .unimplemented) :
    callerAction r w = .refuse := by rw [callerAction, h]

theorem callerAction_of_isInstruction {r : Record} (w : Word) (h : r.opcode.isInstruction = true) :
    callerAction r w = .execute := by
  unfold callerAction
  split
  · next hop => rw [hop] at h; cases h
  · next hop => rw [hop] at h; cases h
  · rfl

/-- Settles O57: the three ways a word can end are the three rows of the table. -/
theorem actingCallerFollowsTable : Obligations.ActingCallerFollowsTable := by
  intro w s hp
  rcases runWord_cases w with ⟨r, hr, hd, ha⟩ | ⟨n, -, hd, he⟩ | ⟨n, -, hd, he⟩ <;> rw [hd]
  · rw [callerAction_of_isInstruction w hr.2]
    exact ha s
  · rw [callerAction_of_opcode_illegal w rfl, he]
    exact emitIllegal_trapOrRefuse n (s.present w) hp
  · rw [callerAction_of_opcode_unimplemented w rfl, he]
    exact emitUnimplemented_trapOrRefuse n (s.present w) hp

/-- Settles O56: the table's row of the refusal. -/
theorem unimplementedIsRefused : Obligations.UnimplementedIsRefused := by
  intro w s hp hop
  have h := actingCallerFollowsTable w s hp
  rwa [callerAction_of_opcode_unimplemented w hop] at h

/-- Settles O55: the table's row of the exception, whose entry `takeException` writes out. -/
theorem trapEntrySavesAndRedirects : Obligations.TrapEntrySavesAndRedirects := by
  intro w s hp hop
  have h := actingCallerFollowsTable w s hp
  rwa [callerAction_of_opcode_illegal w hop] at h

/-! ### The trap value by length (R322) -/

theorem trapValue_four (w : Word) : trapValue 4#3 w = w.setWidth 64 := if_pos rfl

/-- The parcel is the low half of the word. -/
theorem trapValue_two (w : Word) : trapValue 2#3 w = (w.extractLsb 15 0).setWidth 64 :=
  (if_neg (by decide)).trans (congrArg (BitVec.setWidth 64) (BitVec.setWidth_eq_extractLsb' (by decide)))

/-- Settles O54: the trap entry writes the cause and the trap value, which is the word or the parcel by length. -/
theorem illegalRaisesIllegalInstruction : Obligations.IllegalRaisesIllegalInstruction := by
  intro w s hp hop
  refine ⟨_, trapEntrySavesAndRedirects w s hp hop, rfl, rfl, fun hn => ?_, fun hn => ?_⟩
  · exact (congrArg (trapValue · w) hn).trans (trapValue_four w)
  · exact (congrArg (trapValue · w) hn).trans (trapValue_two w)

/-! ### Control and mode (R331, R337) -/

/-- Settles O48: of the two ways a word can be answered, only an illegal record of a caller that traps does not move the
pc on by the length. -/
theorem decodedTagsDoNotTransferControl : Obligations.DecodedTagsDoNotTransferControl := by
  intro s t h hop
  obtain ⟨-, w, -, hw⟩ := step_next h
  rcases runWord_next hw with rfl | ⟨-, n, -, hd, rfl⟩
  · rfl
  · rw [takeException_out, hd] at hop
    cases hop

/-- The illegal path goes to the same pc from every mode: the pc plus `n`, or the vector base (log entry 9). -/
theorem emitIllegal_setMode {n : BitVec 3} {s t : State} (m : Mode) (h : emitIllegal n s = .next t) :
    ∃ t', emitIllegal n { s with mode := m } = .next t' ∧ t'.pc = t.pc := by
  obtain ⟨_, _, _, _, _ | _⟩ := s <;> cases h <;> exact ⟨_, rfl, rfl⟩

/-- In any other mode a word is answered where it is answered in this one, with the same next pc. -/
theorem runWord_setMode {w : Word} {s t : State} (m : Mode) (h : runWord w s = .next t) :
    ∃ t', runWord w { s with mode := m } = .next t' ∧ t'.pc = t.pc := by
  rcases runWord_cases w with ⟨r, -, -, ha⟩ | ⟨n, -, -, he⟩ | ⟨n, -, -, he⟩
  · rw [ha s] at h
    cases h
    exact ⟨_, ha _, rfl⟩
  · rw [he s] at h
    rw [he]
    exact emitIllegal_setMode m h
  · rw [he s] at h
    obtain ⟨hp, rfl⟩ := emitUnimplemented_next n _ t h
    exact ⟨_, (he _).trans (emitUnimplemented_continuePast n _ hp), rfl⟩

/-- Settles O45: the fetch does not read the mode, and the ports and the memory are those of the word that ran. -/
theorem modeDoesNotMatterToDecode : Obligations.ModeDoesNotMatterToDecode := by
  intro s t m h
  obtain ⟨-, w, hf, hw⟩ := step_next h
  have hfm : fetch { s with mode := m } = .ok w := hf
  obtain ⟨t', hw', hpc⟩ := runWord_setMode m hw
  obtain ⟨hi, ho, hmem⟩ := runWord_next_ports hw
  obtain ⟨hi', ho', hmem'⟩ := runWord_next_ports hw'
  exact ⟨t', (step_of_fetch_ok hfm).trans hw', hi'.trans hi.symm, ho'.trans ho.symm, hpc, hmem'.trans hmem.symm⟩

end Sys2Proof.Machine
